-- ==== Sys2Proof/Word.lean ====
section
/-! DEFINITION. The unit of the drive link, the buffer and the label: the byte (sections 11.1 and 8.1 of spec/).
Everything else the manual counts is an integer ("All quantities are integers unless stated otherwise", Conventions). -/

namespace Sys2Proof

/-- One byte, as the link, the buffer memory and the label sectors carry it. -/
abbrev Byte := BitVec 8

/-- A 16-bit word: the CRC register, the notice set, the fault-flag set. -/
abbrev Word16 := BitVec 16

end Sys2Proof
end

