-- ==== Sys2Proof/Config.lean ====
section
/-! DEFINITION. The tables the drive works by (their types), the images of the Table defaults ROM, the durations the
manual fixes, and the one value it leaves open. Durations are in microseconds, the period of the 1 MHz reference. -/

namespace Sys2Proof

/-- The profile table and gains (R78): `points` holds the sixteen pairs (Dk, Vk). -/
structure Profile where
  kv : Nat
  kp : Nat
  kd : Nat
  points : List (Nat × Nat)
  deriving DecidableEq, Repr

/-- One zone of the zone table (R104). -/
structure Zone where
  first : Nat
  spt : Nat
  deriving DecidableEq, Repr

/-- The zone table (R104). -/
structure ZoneTable where
  formatId : Nat
  zones : List Zone
  spareStart : Nat
  spareSpt : Nat
  deriving DecidableEq, Repr

/-- The five monitor actions (R162), in the order of the coded list of section 11.2. -/
inductive MonAction where
  | noAction | note | holdWrites | park | retract
  deriving DecidableEq, Repr

/-- The three armed sets (R162), in the order of the coded list. -/
inductive ArmedSet where
  | always | spinning | ready
  deriving DecidableEq, Repr

/-- The limits of one monitor channel (R162). -/
structure Limits where
  low : Nat
  lowAction : MonAction
  lowPersistence : Nat
  high : Nat
  highAction : MonAction
  highPersistence : Nat
  armed : ArmedSet
  deriving DecidableEq, Repr

/-- The settings record (R179). `ejectLong`: the long (160 ms) pulse; `brakeSlow`: the 125 ms brake step;
`noticeMask`: the notice mask as the 16-bit set of section 11.2. -/
structure Settings where
  writeBack : Bool
  readAhead : Bool
  retryLimit : Nat
  flushDelay : Nat
  standbyDelay : Nat
  ejectLong : Bool
  brakeSlow : Bool
  spinOnInsert : Bool
  noticeMask : Word16
  deriving DecidableEq, Repr

namespace Config

/-- The default profile table and gains of the Table defaults ROM (R78). -/
def romProfile : Profile :=
  { kv := 12, kp := 20, kd := 40,
    points := [(0, 0), (32, 8), (64, 16), (128, 28), (256, 48), (512, 80), (1024, 160), (2048, 272),
      (4096, 480), (8192, 720), (16384, 1040), (32768, 1440), (65536, 1900), (131072, 2300),
      (196608, 2500), (307200, 2560)] }

/-- The default bias table: 0 in every band (R90). -/
def romBias : List Int := [0, 0, 0, 0, 0, 0, 0, 0]

/-- The default zone table (R104). -/
def romZones : ZoneTable :=
  { formatId := 2041,
    zones := [{ first := 1, spt := 36 }, { first := 300, spt := 32 }, { first := 600, spt := 28 },
      { first := 900, spt := 24 }],
    spareStart := 1196, spareSpt := 24 }

/-- The default monitor table (R162), in schedule order V12, V5, TEMP, ISPIN, IACT. -/
def romLimits : List Limits :=
  [{ low := 108, lowAction := .retract, lowPersistence := 1, high := 132, highAction := .note,
     highPersistence := 2, armed := .always },
   { low := 90, lowAction := .retract, lowPersistence := 1, high := 110, highAction := .note,
     highPersistence := 2, armed := .always },
   { low := 45, lowAction := .note, lowPersistence := 4, high := 95, highAction := .holdWrites,
     highPersistence := 4, armed := .always },
   { low := 0, lowAction := .noAction, lowPersistence := 1, high := 180, highAction := .park,
     highPersistence := 4, armed := .ready },
   { low := 0, lowAction := .noAction, lowPersistence := 1, high := 150, highAction := .note,
     highPersistence := 4, armed := .ready }]

/-- The default settings record (R179). -/
def romSettings : Settings :=
  { writeBack := true, readAhead := true, retryLimit := 8, flushDelay := 20, standbyDelay := 10,
    ejectLong := false, brakeSlow := false, spinOnInsert := true, noticeMask := 0 }

/-- Presence debounce, 250 ms (R4). -/
def debounceTime : Nat := 250000
/-- Eject check, 500 ms (R18). -/
def ejectCheckTime : Nat := 500000
/-- Speed-loss grace, 2 s (R22). -/
def graceTime : Nat := 2000000
/-- Spin-up timer, 10 s (R33). -/
def spinUpTime : Nat := 10000000
/-- Check wait timer, 5 s (R47). -/
def checkWaitTime : Nat := 5000000
/-- Retract timer, 50 ms (R71). -/
def retractTime : Nat := 50000
/-- Hold wait timer, 10 s (R133). -/
def holdWaitTime : Nat := 10000000
/-- One converter slot, 20 ms (R159). -/
def slotTime : Nat := 20000

/-- FREE VALUE (assumption 5). R175 ends a spoiled DATA_IN frame "with a CRC that cannot match its contents" and does
not state which CRC. The model ends it with the matching CRC changed in the bits of this mask (in bit 0 when
the mask is 0), so every CRC that does not match is covered and nothing else is known of it. -/
opaque spoilMask : Word16

end Config

end Sys2Proof
end

