-- ==== Sys2Proof/Syntax.lean ====
section
/-! DEFINITION. The commands of the 7140, one constructor per row of spec/opcode_table.json. The table gives no
row any bits; the operands are those the rules named at each constructor give the event or order (assumption 6). -/

namespace Sys2Proof

/-- The servo sample record (R50). -/
structure ServoRecord where
  wedge : Nat
  sync : Bool
  trackValid : Bool
  cylinder : Nat
  burstA : Nat
  burstB : Nat
  deriving DecidableEq, Repr

/-- The header a sector mark carries and its header-check result (R129). -/
structure SectorHeader where
  cylinder : Nat
  head : Nat
  sector : Nat
  checkGood : Bool
  deriving DecidableEq, Repr

/-- What had arrived of a frame that never became a good frame (R172): a DATA_OUT frame with its header fields and
the payload bytes that had come, or any other frame (or none). -/
inductive PartialFrame where
  | other
  | dataOut (tag index len : Nat) (payload : List Byte)
  deriving DecidableEq, Repr

/-- The ten bytes of a SET order's settings record as sent (section 11.2), before the checks of R179. -/
structure SettingsImage where
  writeBack : Nat
  readAhead : Nat
  retryLimit : Nat
  flushDelay : Nat
  standbyDelay : Nat
  ejectPulse : Nat
  brakeStep : Nat
  spinOnInsert : Nat
  noticeMask : Word16
  deriving DecidableEq, Repr

/-- The clear set of a STATUS order (R180), coded as section 11.2 gives: notices, fault flags, counters. -/
structure ClearSet where
  notices : Word16
  faults : Word16
  counters : Byte
  deriving DecidableEq, Repr

/-- The two sides of the buffer port (R137), for which the SGC reads the buffer (R158). -/
inductive PortSide where
  | link | media
  deriving DecidableEq, Repr

/-- The commands. `tag` is the tag byte of an ORDER frame's header. Where an ORDER's option or table id lies
outside its coding (R177), the frame is the row that the docstring names. -/
inductive Instr where
  /-- POWER_ON_RESET (R2): with what the presence sensor, the write-protect tab and the address straps read. -/
  | powerOnReset (present tab : Bool) (straps : Nat)
  /-- LINK_RESET_LINE (R182): with the frame it cut off, if any (R172). -/
  | linkResetLine (cut : PartialFrame)
  /-- PRESENCE_CHANGE (R4): what the cartridge-present sensor now reads. -/
  | presenceChange (present : Bool)
  /-- SEATING_DEBOUNCE_EXPIRY (R4): with what the write-protect tab reads (R5). -/
  | seatingDebounceExpiry (tab : Bool)
  /-- EJECT_BUTTON_PRESS (R6). -/
  | ejectButtonPress
  /-- EJECT_PULSE_END (R8). -/
  | ejectPulseEnd
  /-- EJECT_CHECK_EXPIRY (R18). -/
  | ejectCheckExpiry
  /-- STANDBY_TIMER_EXPIRY (R14). -/
  | standbyTimerExpiry
  /-- GRACE_TIMER_EXPIRY (R22). -/
  | graceTimerExpiry
  /-- SPIN_UP_TIMER_EXPIRY (R34). -/
  | spinUpTimerExpiry
  /-- INDEX_PULSE (R37). -/
  | indexPulse
  /-- COMMUTATION_PULSE (R40). -/
  | commutationPulse
  /-- TIME_BASE_OVERFLOW (R36). -/
  | timeBaseOverflow
  /-- BRAKE_STEP_EXPIRY (R45). -/
  | brakeStepExpiry
  /-- CHECK_WAIT_EXPIRY (R48). -/
  | checkWaitExpiry
  /-- SERVO_SAMPLE (R51). -/
  | servoSample (r : ServoRecord)
  /-- LOAD_LIMIT_REACHED (R69). -/
  | loadLimitReached
  /-- SEEK_TIMEOUT (R87). -/
  | seekTimeout
  /-- LOST_CONDITION (R61). -/
  | lostCondition
  /-- RETRACT_TIMER_EXPIRY (R73). -/
  | retractTimerExpiry
  /-- SECTOR_MARK (R129). -/
  | sectorMark (h : SectorHeader)
  /-- READ_FIELD_END (R130): the 512 bytes of the field and its data-check result. -/
  | readFieldEnd (data : List Byte) (good : Bool)
  /-- WRITE_FIELD_END (R131). -/
  | writeFieldEnd
  /-- PARITY_ERROR (R158): the side reading, and which of the block's 512 bytes failed. -/
  | parityError (side : PortSide) (at_ : Nat)
  /-- HOLD_WAIT_EXPIRY (R133). -/
  | holdWaitExpiry
  /-- FLUSH_DELAY_EXPIRY (R154). -/
  | flushDelayExpiry
  /-- MONITOR_READING (R159): the 8-bit reading of the slot's channel. -/
  | monitorReading (reading : Nat)
  /-- POLL_FRAME (R175). -/
  | pollFrame
  /-- HOST_HANDSHAKE (R175): ACCEPT (true) or REFUSED (false). -/
  | hostHandshake (accept : Bool)
  /-- DATA_OUT_FRAME (R174): a good DATA_OUT frame. -/
  | dataOutFrame (tag index : Nat) (payload : List Byte)
  /-- UNKNOWN_ORDER_KIND (R173): a good frame that the header or kind checks refuse. -/
  | unknownOrderKind
  /-- START (R26). -/
  | start (tag : Nat)
  /-- STOP (R27). -/
  | stop (tag : Nat)
  /-- EJECT (R28): option byte 00h; an option outside the coding (R177) comes here too. -/
  | eject (tag option : Nat)
  /-- EJECT_DISCARD (R157): option byte 01h. -/
  | ejectDiscard (tag : Nat)
  /-- REMOVAL_PREVENT (R29): option byte 01h; an option outside the coding (R177) comes here too. -/
  | removalPrevent (tag option : Nat)
  /-- REMOVAL_ALLOW (R29): option byte 02h. -/
  | removalAllow (tag : Nat)
  /-- SEEK (R139). -/
  | seek (tag cylinder head : Nat)
  /-- READ (R144). -/
  | read (tag first count : Nat)
  /-- WRITE (R149). -/
  | write (tag first count : Nat)
  /-- FLUSH (R155). -/
  | flush (tag : Nat)
  /-- REASSIGN (R111). -/
  | reassign (tag block : Nat)
  /-- COMMIT_LABEL (R119): option byte 00h none, 01h overwrite. -/
  | commitLabel (tag option : Nat)
  /-- CALIBRATE (R101). -/
  | calibrate (tag : Nat)
  /-- LOAD_TABLE_PROFILE (R79): table id 1; an id outside the coding (R177) comes here too. -/
  | loadTableProfile (tag id frames : Nat)
  /-- LOAD_TABLE_BIAS (R91). -/
  | loadTableBias (tag frames : Nat)
  /-- LOAD_TABLE_ZONE (R106). -/
  | loadTableZone (tag frames : Nat)
  /-- LOAD_TABLE_DEFECT (R110). -/
  | loadTableDefect (tag frames : Nat)
  /-- LOAD_TABLE_LABEL (R117). -/
  | loadTableLabel (tag frames : Nat)
  /-- LOAD_TABLE_MONITOR (R169). -/
  | loadTableMonitor (tag frames : Nat)
  /-- READ_TABLE_PROFILE (R79): table id 1; an id outside the coding (R177) comes here too. -/
  | readTableProfile (tag id : Nat)
  /-- READ_TABLE_BIAS (R91). -/
  | readTableBias (tag : Nat)
  /-- READ_TABLE_ZONE (R121). -/
  | readTableZone (tag : Nat)
  /-- READ_TABLE_DEFECT (R121). -/
  | readTableDefect (tag : Nat)
  /-- READ_TABLE_LABEL (R121). -/
  | readTableLabel (tag : Nat)
  /-- READ_TABLE_MONITOR (R169). -/
  | readTableMonitor (tag : Nat)
  /-- SET (R179). -/
  | set (tag : Nat) (image : SettingsImage)
  /-- STATUS (R180). -/
  | status (tag : Nat) (clear : ClearSet)
  /-- ABORT (R181): `victim` is the tag byte of its parameter, 0 to 254. -/
  | abort (tag victim : Nat)
  /-- ABORT_ALL (R181): the tag byte FFh. -/
  | abortAll (tag : Nat)
  /-- RESET (R182). -/
  | reset (tag : Nat)
  /-- FRAME_DISCARDED_BAD_CRC (R172): with what had streamed of a DATA_OUT frame (R149). -/
  | frameDiscardedBadCrc (frame : PartialFrame)
  /-- EJECT_BUTTON_RELEASE (R6). -/
  | ejectButtonRelease
  deriving DecidableEq, Repr

end Sys2Proof
end

