-- ==== Sys2Proof/WellFormed.lean ====
section
/-! DEFINITION. Which commands can arrive: every operand within the values its attachment or its frame field can
carry (R50, R129, R159, R184, R185). The meanings are total all the same; these bounds are used by the statements. -/

namespace Sys2Proof

/-- The tag of an ORDER frame that passed the header checks (R184). -/
def tagOk (t : Nat) : Bool := t ≤ 15

/-- A one-byte field. -/
def byteOk (n : Nat) : Bool := n < 256

/-- A servo sample record within the ranges of R50. -/
def ServoRecord.wf (r : ServoRecord) : Bool :=
  r.wedge < 60 && r.cylinder < 2048 && byteOk r.burstA && byteOk r.burstB

/-- A settings image whose eight leading fields are bytes. -/
def SettingsImage.wf (i : SettingsImage) : Bool :=
  byteOk i.writeBack && byteOk i.readAhead && byteOk i.retryLimit && byteOk i.flushDelay &&
    byteOk i.standbyDelay && byteOk i.ejectPulse && byteOk i.brakeStep && byteOk i.spinOnInsert

/-- A partial frame: a tag that passed the header checks, an index byte, a length of at most 512 and no more payload than that. -/
def PartialFrame.wf : PartialFrame → Bool
  | .other => true
  | .dataOut tag index len payload =>
      tagOk tag && byteOk index && decide (len ≤ 512) && decide (payload.length ≤ len)

/-- The commands that can arrive. -/
def Instr.wf : Instr → Bool
  | .powerOnReset _ _ straps => straps < 4
  | .linkResetLine cut => cut.wf
  | .servoSample r => r.wf
  | .sectorMark h => decide (h.cylinder < 2048) && decide (h.head < 2)
  | .readFieldEnd data _ => data.length = 512
  | .parityError _ at_ => at_ < 512
  | .monitorReading r => byteOk r
  | .dataOutFrame tag index payload => tagOk tag && byteOk index && decide (payload.length ≤ 512)
  | .frameDiscardedBadCrc f => f.wf
  | .start t | .stop t | .ejectDiscard t | .removalAllow t | .flush t | .calibrate t | .readTableBias t
  | .readTableZone t | .readTableDefect t | .readTableLabel t | .readTableMonitor t | .status t _
  | .abortAll t | .reset t => tagOk t
  | .eject t option => tagOk t && byteOk option && option != 1
  | .removalPrevent t option => tagOk t && byteOk option && option != 2
  | .commitLabel t option => tagOk t && byteOk option
  | .seek t cylinder head => tagOk t && decide (cylinder < 65536) && byteOk head
  | .read t first count | .write t first count =>
      tagOk t && decide (first < 4294967296) && decide (count < 65536)
  | .reassign t block => tagOk t && decide (block < 4294967296)
  | .loadTableProfile t id frames =>
      tagOk t && byteOk id && byteOk frames && !(decide (2 ≤ id) && decide (id ≤ 6))
  | .loadTableBias t f | .loadTableZone t f | .loadTableDefect t f | .loadTableLabel t f
  | .loadTableMonitor t f => tagOk t && byteOk f
  | .readTableProfile t id => tagOk t && byteOk id && !(decide (2 ≤ id) && decide (id ≤ 6))
  | .set t image => tagOk t && image.wf
  | .abort t victim => tagOk t && decide (victim < 255)
  | .presenceChange _ | .seatingDebounceExpiry _ | .ejectButtonPress | .ejectPulseEnd | .ejectCheckExpiry
  | .standbyTimerExpiry | .graceTimerExpiry | .spinUpTimerExpiry | .indexPulse | .commutationPulse
  | .timeBaseOverflow | .brakeStepExpiry | .checkWaitExpiry | .loadLimitReached | .seekTimeout
  | .lostCondition | .retractTimerExpiry | .writeFieldEnd | .holdWaitExpiry | .flushDelayExpiry
  | .pollFrame | .hostHandshake _ | .unknownOrderKind | .ejectButtonRelease => true

end Sys2Proof
end

