-- ==== Sys2Proof/Decode.lean ====
section
/-! DEFINITION. Frames and commands. `decodeTableWord` reads a command from the bits spec/opcode_table.json gives its
rows (it gives none any bits). `decodeFrame` reads the command a frame on the cable stands for by the layouts of
section 11.1 and 11.2 (R172, R173, R184, R185), and `encodeFrame`, `encodeOrder` write the frames of the same layouts. -/

namespace Sys2Proof

/-- No row of the table has any bits: no word spells a command. -/
def decodeTableWord (_nbits _w : Nat) : Option Instr := none

/-! ### Byte order (section 11: most significant byte first) -/

/-- The low byte of a number. -/
def byteOf (n : Nat) : Byte := BitVec.ofNat 8 n

/-- Two bytes, most significant first. -/
def be2 (n : Nat) : List Byte := [byteOf (n / 256), byteOf n]

/-- Three bytes, most significant first. -/
def be3 (n : Nat) : List Byte := byteOf (n / 65536) :: be2 n

/-- Four bytes, most significant first. -/
def be4 (n : Nat) : List Byte := byteOf (n / 16777216) :: be3 n

/-- The number a list of bytes spells, most significant first. -/
def ofBytes (l : List Byte) : Nat := l.foldl (fun acc b => acc * 256 + b.toNat) 0

/-- `n` bytes of a list starting at an offset. -/
def slice (offset n : Nat) (l : List Byte) : List Byte := (l.drop offset).take n

/-- The number `n` bytes starting at an offset spell. -/
def fieldAt (offset n : Nat) (l : List Byte) : Nat := ofBytes (slice offset n l)

/-- The byte at an offset, 0 past the end. -/
def byteAt (offset : Nat) (l : List Byte) : Nat := (l.getD offset 0).toNat

/-! ### The CRC-16 of R184 -/

/-- One bit shifted into the register toward its high end, polynomial x^16 + x^12 + x^5 + 1. -/
def crcBit (reg : Word16) (b : Bool) : Word16 :=
  if reg.msb != b then (reg <<< 1) ^^^ 0x1021#16 else reg <<< 1

/-- One byte, most significant bit first. -/
def crcByte (reg : Word16) (b : Byte) : Word16 :=
  [7, 6, 5, 4, 3, 2, 1, 0].foldl (fun r i => crcBit r (b.getLsbD i)) reg

/-- The CRC over a run of bytes: the register starts at FFFFh and is not inverted at the end. -/
def crc16 (l : List Byte) : Word16 := l.foldl crcByte 0xFFFF#16

/-! ### Frames (section 11.1) -/

/-- Header and payload of a frame. -/
def frameBody (kind address tag index : Nat) (payload : List Byte) : List Byte :=
  [byteOf kind, byteOf address, byteOf tag, byteOf index] ++ be2 payload.length ++ payload

/-- A whole frame: header, payload and the CRC over both. -/
def encodeFrame (kind address tag index : Nat) (payload : List Byte) : List Byte :=
  frameBody kind address tag index payload ++ be2 (crc16 (frameBody kind address tag index payload)).toNat

/-- ORDER 01h. -/
def kindOrder : Nat := 0x01
/-- DATA_OUT 02h. -/
def kindDataOut : Nat := 0x02
/-- POLL 03h. -/
def kindPoll : Nat := 0x03
/-- REPORT 81h. -/
def kindReport : Nat := 0x81
/-- DATA_IN 82h. -/
def kindDataIn : Nat := 0x82
/-- IDLE 83h. -/
def kindIdle : Nat := 0x83
/-- STATUS_REPORT 84h. -/
def kindStatusReport : Nat := 0x84

/-! ### Order payloads (section 11.2, R185) -/

/-- The ten bytes of a settings record. -/
def encodeSettings (i : SettingsImage) : List Byte :=
  [byteOf i.writeBack, byteOf i.readAhead, byteOf i.retryLimit, byteOf i.flushDelay, byteOf i.standbyDelay,
    byteOf i.ejectPulse, byteOf i.brakeStep, byteOf i.spinOnInsert] ++ be2 i.noticeMask.toNat

/-- The settings record that ten bytes starting at an offset spell. -/
def decodeSettings (p : List Byte) (o : Nat) : SettingsImage :=
  { writeBack := byteAt o p, readAhead := byteAt (o + 1) p, retryLimit := byteAt (o + 2) p,
    flushDelay := byteAt (o + 3) p, standbyDelay := byteAt (o + 4) p, ejectPulse := byteAt (o + 5) p,
    brakeStep := byteAt (o + 6) p, spinOnInsert := byteAt (o + 7) p,
    noticeMask := BitVec.ofNat 16 (fieldAt (o + 8) 2 p) }

/-- LOAD_TABLE by table id (PROFILE 1, BIAS 2, ZONE 3, MONITOR 4, DEFECT 5, LABEL 6). -/
def loadTableRow (tag id frames : Nat) : Instr :=
  match id with
  | 2 => .loadTableBias tag frames
  | 3 => .loadTableZone tag frames
  | 4 => .loadTableMonitor tag frames
  | 5 => .loadTableDefect tag frames
  | 6 => .loadTableLabel tag frames
  | n => .loadTableProfile tag n frames

/-- READ_TABLE by table id. -/
def readTableRow (tag id : Nat) : Instr :=
  match id with
  | 2 => .readTableBias tag
  | 3 => .readTableZone tag
  | 4 => .readTableMonitor tag
  | 5 => .readTableDefect tag
  | 6 => .readTableLabel tag
  | n => .readTableProfile tag n

/-- The payload length each order kind code carries; none for an unknown code. -/
def payloadLength (code : Nat) : Option Nat :=
  match code with
  | 0x10 => some 1
  | 0x11 => some 1
  | 0x12 => some 2
  | 0x13 => some 2
  | 0x20 => some 4
  | 0x21 => some 7
  | 0x22 => some 7
  | 0x23 => some 1
  | 0x24 => some 5
  | 0x25 => some 2
  | 0x26 => some 1
  | 0x30 => some 3
  | 0x31 => some 2
  | 0x32 => some 11
  | 0x40 => some 6
  | 0x41 => some 2
  | 0x42 => some 1
  | _ => none

/-- An ORDER payload of the right length, by its kind code. -/
def decodeOrderCode (tag code : Nat) (p : List Byte) : Instr :=
  match code with
  | 0x10 => .start tag
  | 0x11 => .stop tag
  | 0x12 => if byteAt 1 p = 1 then .ejectDiscard tag else .eject tag (byteAt 1 p)
  | 0x13 => if byteAt 1 p = 2 then .removalAllow tag else .removalPrevent tag (byteAt 1 p)
  | 0x20 => .seek tag (fieldAt 1 2 p) (byteAt 3 p)
  | 0x21 => .read tag (fieldAt 1 4 p) (fieldAt 5 2 p)
  | 0x22 => .write tag (fieldAt 1 4 p) (fieldAt 5 2 p)
  | 0x23 => .flush tag
  | 0x24 => .reassign tag (fieldAt 1 4 p)
  | 0x25 => .commitLabel tag (byteAt 1 p)
  | 0x26 => .calibrate tag
  | 0x30 => loadTableRow tag (byteAt 1 p) (byteAt 2 p)
  | 0x31 => readTableRow tag (byteAt 1 p)
  | 0x32 => .set tag (decodeSettings p 1)
  | 0x40 => .status tag { notices := BitVec.ofNat 16 (fieldAt 1 2 p), faults := BitVec.ofNat 16 (fieldAt 3 2 p), counters := p.getD 5 0 }
  | 0x41 => if byteAt 1 p = 255 then .abortAll tag else .abort tag (byteAt 1 p)
  | 0x42 => .reset tag
  | _ => .unknownOrderKind

/-- An ORDER payload: the kind and length tests of R173, then the parameters. -/
def decodeOrder (tag : Nat) (p : List Byte) : Instr :=
  if payloadLength (byteAt 0 p) = some p.length then decodeOrderCode tag (byteAt 0 p) p else .unknownOrderKind

/-- The payload of the ORDER frame that a command stands for, with its tag; none where the command is no ORDER frame. -/
def encodeOrder : Instr → Option (Nat × List Byte)
  | .start t => some (t, [byteOf 0x10])
  | .stop t => some (t, [byteOf 0x11])
  | .eject t o => some (t, [byteOf 0x12, byteOf o])
  | .ejectDiscard t => some (t, [byteOf 0x12, byteOf 1])
  | .removalPrevent t o => some (t, [byteOf 0x13, byteOf o])
  | .removalAllow t => some (t, [byteOf 0x13, byteOf 2])
  | .seek t c h => some (t, [byteOf 0x20] ++ be2 c ++ [byteOf h])
  | .read t f n => some (t, [byteOf 0x21] ++ be4 f ++ be2 n)
  | .write t f n => some (t, [byteOf 0x22] ++ be4 f ++ be2 n)
  | .flush t => some (t, [byteOf 0x23])
  | .reassign t b => some (t, [byteOf 0x24] ++ be4 b)
  | .commitLabel t o => some (t, [byteOf 0x25, byteOf o])
  | .calibrate t => some (t, [byteOf 0x26])
  | .loadTableProfile t i f => some (t, [byteOf 0x30, byteOf i, byteOf f])
  | .loadTableBias t f => some (t, [byteOf 0x30, byteOf 2, byteOf f])
  | .loadTableZone t f => some (t, [byteOf 0x30, byteOf 3, byteOf f])
  | .loadTableMonitor t f => some (t, [byteOf 0x30, byteOf 4, byteOf f])
  | .loadTableDefect t f => some (t, [byteOf 0x30, byteOf 5, byteOf f])
  | .loadTableLabel t f => some (t, [byteOf 0x30, byteOf 6, byteOf f])
  | .readTableProfile t i => some (t, [byteOf 0x31, byteOf i])
  | .readTableBias t => some (t, [byteOf 0x31, byteOf 2])
  | .readTableZone t => some (t, [byteOf 0x31, byteOf 3])
  | .readTableMonitor t => some (t, [byteOf 0x31, byteOf 4])
  | .readTableDefect t => some (t, [byteOf 0x31, byteOf 5])
  | .readTableLabel t => some (t, [byteOf 0x31, byteOf 6])
  | .set t i => some (t, [byteOf 0x32] ++ encodeSettings i)
  | .status t c => some (t, [byteOf 0x40] ++ be2 c.notices.toNat ++ be2 c.faults.toNat ++ [c.counters])
  | .abort t v => some (t, [byteOf 0x41, byteOf v])
  | .abortAll t => some (t, [byteOf 0x41, byteOf 255])
  | .reset t => some (t, [byteOf 0x42])
  | _ => none

/-- The frame by which a host adapter sends a command to the drive at an address; none for what is no frame. -/
def encodeCommand (address : Nat) : Instr → Option (List Byte)
  | .pollFrame => some (encodeFrame kindPoll address 0 0 [])
  | .dataOutFrame tag index payload => some (encodeFrame kindDataOut address tag index payload)
  | i => (encodeOrder i).map fun tp => encodeFrame kindOrder address tp.1 0 tp.2

/-- What a frame heard on the cable is to a drive. -/
inductive Heard where
  /-- Addressed to another drive, or cut off before its address: no effect (R172). -/
  | ignored
  /-- Addressed to this drive: the command it stands for. -/
  | command (i : Instr)
  deriving DecidableEq, Repr

/-- A good frame for this drive: the header checks of R184, then the kind. -/
def decodeGood (kind tag index : Nat) (payload : List Byte) : Instr :=
  if kind = kindPoll then .pollFrame
  else if kind = kindOrder then (if tag ≤ 15 then decodeOrder tag payload else .unknownOrderKind)
  else if kind = kindDataOut then (if tag ≤ 15 then .dataOutFrame tag index payload else .unknownOrderKind)
  else .unknownOrderKind

/-- A frame for this drive that fails its CRC check: what it had streamed as a DATA_OUT frame (R149, R172). -/
def decodeBad (kind tag index len : Nat) (payload : List Byte) : PartialFrame :=
  if kind = kindDataOut ∧ tag ≤ 15 then .dataOut tag index len payload else .other

/-- A frame heard by the drive at an address (R172, R184). Of a run of bytes that is no whole frame, the model ignores one of fewer than six bytes, and counts
any other as a frame whose CRC fails (the model's choice, assumption 44). -/
def decodeFrame (address : Nat) (l : List Byte) : Heard :=
  if l.length < 6 then .ignored
  else if byteAt 1 l ≠ address then .ignored
  else if 512 < fieldAt 4 2 l then .command (.frameDiscardedBadCrc .other)
  else if l.length = fieldAt 4 2 l + 8 ∧
      slice (6 + fieldAt 4 2 l) 2 l = be2 (crc16 (l.take (6 + fieldAt 4 2 l))).toNat then
    .command (decodeGood (byteAt 0 l) (byteAt 2 l) (byteAt 3 l) (slice 6 (fieldAt 4 2 l) l))
  else
    .command (.frameDiscardedBadCrc
      (decodeBad (byteAt 0 l) (byteAt 2 l) (byteAt 3 l) (fieldAt 4 2 l) (slice 6 (fieldAt 4 2 l) l)))

end Sys2Proof
end

