-- ==== Sys2Proof/Machine/State.lean ====
section
/-! DEFINITION. The state of the 7140, block by block (R1, R30, R53, R65, R92, R102, R123, R127, R140, R161, R171), the
queue of commands waiting for it, its state after reset, and the setters of its blocks. Timers are `none` when stopped and
`some` of the microseconds left when running. -/

namespace Sys2Proof.Machine

/-- FAULTS. None: every event and order of the table has an effect (or none) in every state, and no rule of the
manual stops the machine. The type is closed and empty: no run of this model ends in a fault (safe). -/
inductive Fault where
  deriving DecidableEq, Repr

/-- Why the model gives a command no meaning. -/
inductive Refusal where
  /-- Raised by exec's arm of a command whose meaning is not written; no arm raises it. Safe: the run stops. -/
  | notModelled (mnemonic : String)
  deriving DecidableEq, Repr

/-! ### Named values (coded lists of section 11.2) -/

/-- The thirteen lifecycle states (section 1.2). -/
inductive Lifecycle where
  | empty | seating | stopped | spinUp | headLoad | labelRead | calibrate | ready | flush | unload
  | spinDown | eject | jammed
  deriving DecidableEq, Repr

/-- Stop reasons (R1). -/
inductive StopReason where
  | insert | standby | order | fault
  deriving DecidableEq, Repr

/-- The state to resume after a reload (R1). -/
inductive ReturnState where
  | nowhere | labelRead | ready | flush
  deriving DecidableEq, Repr

/-- Whether an eject round began from STOPPED or from JAMMED (R1). -/
inductive EjectRound where
  | first | retry
  deriving DecidableEq, Repr

/-- Why the drive left READY (R1, R15): a set, one flag a cause. -/
structure Causes where
  stopOrder : Bool
  ejectOrder : Bool
  button : Bool
  standby : Bool
  park : Bool
  deriving DecidableEq, Repr

/-- Spindle states (R32). -/
inductive SpindleState where
  | still | driving | coasting | braking | checking | waiting
  deriving DecidableEq, Repr

/-- Measurement phases of the speed counters (R36). -/
inductive Phase where
  | idle | acquire | track | stopCheck
  deriving DecidableEq, Repr

/-- Servo modes (R65). -/
inductive ServoMode where
  | parked | loading | seek | settle | follow | retract | lost
  deriving DecidableEq, Repr

/-- Who set the seek target (R74). -/
inductive Requester where
  | nobody | load | transfer | calibration
  deriving DecidableEq, Repr

/-- How the current seek stands (R65). -/
inductive SeekStatus where
  | noSeek | outstanding | onTrack | timedOut
  deriving DecidableEq, Repr

/-- Why a retraction was made (R65). -/
inductive RetractCause where
  | requested | loadFailed | lost
  deriving DecidableEq, Repr

/-- What the calibration pass is doing (R92). -/
inductive PassStage where
  | idle | seeking | gathering | halted
  deriving DecidableEq, Repr

/-- How the most recent calibration pass ended (R92). -/
inductive PassResult where
  | noResult | success | partialPass
  deriving DecidableEq, Repr

/-- Label status (R102). -/
inductive LabelStatus where
  | unread | valid | blank | bad | foreign
  deriving DecidableEq, Repr

/-- Outcomes of orders (section 11.2). -/
inductive Outcome where
  | done | recovered | aborted | notReady | noCartridge | writeProtected | badParameter | outOfRange
  | dataError | seekError | writeFault | held | dirty | tableFull | noSpare | labelBad | foreign
  | flushFailed | prevented | jammed | spinFault | headFault
  deriving DecidableEq, Repr

/-- The detail of a report (R171, section 11.3). -/
inductive Detail where
  | noDetail
  | block (n : Nat)
  | table (id : Nat)
  | cylinder (n : Nat)
  deriving DecidableEq, Repr

/-- The twelve notices (R183). -/
inductive Notice where
  | inserted | ejected | ejectRequest | jammed | spinFault | headFault | speedLost | servoLost | monitor
  | writeHold | dataLost | calFail
  deriving DecidableEq, Repr

/-- Abort results (R181). -/
inductive AbortResult where
  | removed | ending | notAbortable | completed | unknown
  deriving DecidableEq, Repr

/-- The five monitor channels, in schedule order (R159). -/
inductive Channel where
  | v12 | v5 | temp | ispin | iact
  deriving DecidableEq, Repr

/-- A side of a channel's limits, or none (R161). -/
inductive Side where
  | neither | low | high
  deriving DecidableEq, Repr

/-- What uses a segment (R140). -/
inductive Attachment where
  | free | order | readAhead | flush
  deriving DecidableEq, Repr

/-- Whether the link side uses the buffer port (R137). -/
inductive LinkPort where
  | idle | active | suspended
  deriving DecidableEq, Repr

/-! ### CSQ (R1) -/

/-- What is left of a STOP or EJECT order that waited for a start when a link reset took its tag (R3, assumption 37). -/
inductive Leave where
  | stop | eject
  deriving DecidableEq, Repr

/-- The sequencer record of R1, and four items its rules imply: whether a button press can be taken (R6), whether INSERTED
is still to be latched after power-on reset (R2), whether the pending eject was asked for by the button (R18), and the STOP or EJECT
that the CSQ still carries on without its tag (R3). -/
structure Csq where
  lifecycle : Lifecycle
  stopReason : StopReason
  departureReason : StopReason
  faultHold : Bool
  removalPrevented : Bool
  spinUpRequest : Bool
  ejectPending : Bool
  causes : Causes
  loadAttempts : Nat
  reloads : Nat
  returnState : ReturnState
  ejectPulses : Nat
  ejectRound : EjectRound
  writeProtected : Bool
  debounce : Option Nat
  ejectCheck : Option Nat
  standby : Option Nat
  grace : Option Nat
  lockEngaged : Bool
  oneShot : Option Nat
  buttonReady : Bool
  insertedDue : Bool
  ejectByButton : Bool
  carried : Option Leave
  deriving DecidableEq, Repr

/-! ### SPC (R30) -/

/-- The spindle record of R30. -/
structure Spc where
  state : SpindleState
  driveEnable : Bool
  brakeLevel : Nat
  brakingRound : Nat
  brakeStepTimer : Option Nat
  phase : Phase
  windowOpened : Bool
  timeBase : BitVec 18
  pulseCounter : Nat
  inBandRun : Nat
  outOfBandRun : Nat
  noRotationRun : Nat
  speedLock : Bool
  spinUpPending : Bool
  spinUpTimer : Option Nat
  lastCheckConfirmed : Bool
  rotationReported : Bool
  checkWaitTimer : Option Nat
  deriving DecidableEq, Repr

/-! ### SVC (R53, R65, R90, R92) -/

/-- The position record of R53. -/
structure Position where
  present : Bool
  p : Int
  v : Int
  latestValid : Bool
  band : Nat
  latestWedge : Option Nat
  missed : Nat
  totalMissed : Nat
  deriving DecidableEq, Repr

/-- The calibration record and pass state of R92. `bandsDone` holds the bands done, ascending. -/
structure Calibration where
  due : Bool
  temperature : Option Nat
  bandsDone : List Nat
  lastResult : PassResult
  stage : PassStage
  band : Nat
  gathered : Nat
  bandSum : Int
  falls : Nat
  passOrder : Option Nat
  deriving DecidableEq, Repr

/-- The servo record of R65, with the position record, the bias table (R90), the calibration record, and the terms Ip and Ii
that R83 has the SVC keep of each sample. -/
structure Svc where
  pos : Position
  mode : ServoMode
  command : Int
  saturated : Bool
  targetCylinder : Nat
  targetHead : Nat
  retryOffset : Int
  requester : Requester
  seekStatus : SeekStatus
  timeoutCount : Nat
  loadCount : Nat
  settleCount : Nat
  integrator : Int
  latestError : Int
  writePermission : Bool
  retractTimer : Option Nat
  retractCause : RetractCause
  seekErrors : Nat
  termP : Int
  termI : Int
  profile : Profile
  bias : List Int
  cal : Calibration
  deriving DecidableEq, Repr

/-! ### TXE (R102, R123, R127) -/

/-- One entry of the defect table (R109). -/
structure DefectEntry where
  block : Nat
  spare : Nat
  deriving DecidableEq, Repr

/-- The cartridge record in memory (R113). -/
structure CartridgeRecord where
  signature : List Byte
  formatId : Nat
  serial : Nat
  name : List Byte
  sequence : Nat
  defectCount : Nat
  checksum : Word16
  deriving DecidableEq, Repr

/-- What a sector operation transfers (R127); a SEEK order's positioning (R139) transfers nothing. -/
inductive OpTarget where
  | block (n : Nat)
  | label (sector : Nat)
  | seekOnly
  deriving DecidableEq, Repr

/-- The direction of a sector operation (R127). -/
inductive Direction where
  | read | write
  deriving DecidableEq, Repr

/-- What a sector operation waits for (R127). -/
inductive OpPhase where
  | positioning | looking | transferring
  deriving DecidableEq, Repr

/-- The sector operation record of R127. -/
structure SectorOp where
  target : OpTarget
  dir : Direction
  cylinder : Nat
  head : Nat
  sector : Nat
  phase : OpPhase
  retries : Nat
  seekFailures : Nat
  deriving DecidableEq, Repr

/-- What a job is (R123). -/
inductive JobKind where
  | order | labelRead | flush | readAhead
  deriving DecidableEq, Repr

/-- The role of a FLUSH job (R123). -/
inductive FlushRole where
  | background | departure
  deriving DecidableEq, Repr

/-- A READ order's failure (R147): its outcome and detail, and the position in the order before which blocks are still delivered. -/
structure ReadFailure where
  outcome : Outcome
  detail : Detail
  limit : Nat
  deriving DecidableEq, Repr

/-- How far the work of a job has come. -/
inductive Work where
  /-- READ (R144): the position of the next block to serve, whether the medium was read, positions to read again after a
  parity error (R158), and the failure, if any. -/
  | read (next : Nat) (medium : Bool) (again : List Nat) (failure : Option ReadFailure)
  /-- WRITE (R149 to R151): whether it writes through, and the segments filled and waiting to be flushed. -/
  | write (through : Bool) (queue : List Nat)
  /-- A full flush (R152). -/
  | flush
  /-- A label write (R118): the sectors still to write, and whether a sector write has begun. -/
  | label (todo : List Nat) (begun : Bool)
  /-- The label read (R116). -/
  | labelRead
  /-- A SEEK order (R139). -/
  | seek
  /-- A read-ahead (R148): the window in work, the first offset not yet looked at, and the second window if there is one to come. -/
  | readAhead (base from_ : Nat) (second : Option Nat)
  deriving DecidableEq, Repr

/-- The job in the slot (R123): with the segment it flushes for allocation or writes through (R151, R153), and the sector operation
that waits meanwhile (R145). -/
structure Job where
  kind : JobKind
  role : FlushRole
  work : Work
  flushing : Option Nat
  suspended : Option SectorOp
  deriving DecidableEq, Repr

/-- Why the executing order's job is to end at its next sector boundary (R123). -/
inductive EndPending where
  | no | abort | linkReset
  deriving DecidableEq, Repr

/-- What the channel port last carried out to the medium: the place and bytes of the last sector written whole (R131). -/
structure SentField where
  cylinder : Nat
  head : Nat
  sector : Nat
  data : List Byte
  deriving DecidableEq, Repr

/-- The geometry and label record (R102) and the transfer record (R123). -/
structure Txe where
  zones : ZoneTable
  capacity : Nat
  spareCount : Nat
  defects : List DefectEntry
  record : Option CartridgeRecord
  labelStatus : LabelStatus
  labelModified : Bool
  job : Option Job
  orderWaits : Bool
  departureWaits : Bool
  yieldPending : Bool
  endPending : EndPending
  jobRecovered : Bool
  op : Option SectorOp
  gate : Bool
  holdTimer : Option Nat
  retryCounter : Nat
  missedRevolutions : Nat
  labelStore : List (List Byte)
  sentField : Option SentField
  deriving DecidableEq, Repr

/-! ### SGC (R137, R140) -/

/-- One segment record (R140). `valid` and `dirty` hold offsets 0 to 15, strictly ascending. -/
structure Segment where
  base : Nat
  valid : List Nat
  dirty : List Nat
  attachment : Attachment
  deriving DecidableEq, Repr

/-- The segment records, the recency list (most recent first), the 64 KiB buffer as cells, the port, the flush timer and the
loss accounting; `heldDeparture`: a departure flush waits for the end of write hold (R156). -/
structure Sgc where
  segments : List Segment
  recency : List Nat
  buffer : List Host.Cell
  mediaPort : Bool
  linkPort : LinkPort
  flushTimer : Option Nat
  flushWanted : Bool
  lostBlocks : Nat
  lastLost : Option Nat
  heldDeparture : Bool
  deriving DecidableEq, Repr

/-! ### SMN (R161, R162) -/

/-- One channel record: limits and running state (R161). -/
structure ChannelRecord where
  limits : Limits
  latest : Nat
  runSide : Side
  runCount : Nat
  active : Side
  inRange : Nat
  lowFault : Bool
  highFault : Bool
  deriving DecidableEq, Repr

/-- The converter schedule and the five channel records. Write hold is a function of the records (R167). -/
structure Smn where
  slot : Channel
  slotTimer : Nat
  v12 : ChannelRecord
  v5 : ChannelRecord
  temp : ChannelRecord
  ispin : ChannelRecord
  iact : ChannelRecord
  roundComplete : Bool
  deriving DecidableEq, Repr

/-! ### LIF (R171) -/

/-- An order's kind and parameters, as its ORDER frame gave them (R171, R185). -/
inductive OrderKind where
  | start | stop
  | eject (option : Nat)
  | removal (option : Nat)
  | seek (cylinder head : Nat)
  | read (first count : Nat)
  | write (first count : Nat)
  | flush
  | reassign (block : Nat)
  | commitLabel (option : Nat)
  | calibrate
  | loadTable (id frames : Nat)
  | readTable (id : Nat)
  | set (image : SettingsImage)
  deriving DecidableEq, Repr

/-- An accepted order. -/
structure Order where
  tag : Nat
  kind : OrderKind
  deriving DecidableEq, Repr

/-- Where the executing order stands: with its owner at once, waiting for a start (R25), waiting for the job slot (R124), in the
slot, proceeded and waiting for its pass (R101), on its way out of the drive (R27, R28), gathering or offering frames (R178). -/
inductive Stage where
  | dispatched | waitStart | waitSlot | inSlot | waitPass | departing | gathering | offering
  deriving DecidableEq, Repr

/-- The executing order (R171); `remnant`: its tag was freed by a link reset (R182). `blocks` is its blocks done so far. -/
structure Executing where
  order : Order
  remnant : Bool
  stage : Stage
  blocks : Nat
  deriving DecidableEq, Repr

/-- A report (R171). -/
structure Report where
  tag : Nat
  kind : OrderKind
  outcome : Outcome
  blocks : Nat
  detail : Detail
  lifecycle : Lifecycle
  deriving DecidableEq, Repr

/-- The frame the drive has sent and the host has not yet answered (R175). -/
inductive Exchange where
  | noFrame
  | report
  | block (position : Nat)
  | image
  | idle
  | status (clear : ClearSet)
  | spoiled
  deriving DecidableEq, Repr

/-- The link record of R171, with the frames of table images in progress (R178), the frame awaiting the host's handshake (R175) and
the bytes the drive last put on the cable. -/
structure Lif where
  driveAddress : Nat
  orderQueue : List Order
  executing : Option Executing
  expectedIndex : Nat
  reports : List Report
  notices : Word16
  settings : Settings
  crcDiscards : Nat
  attention : Bool
  loadImage : List (List Byte)
  readImage : List (List Byte)
  readIndex : Nat
  exchange : Exchange
  cable : List Byte
  deriving DecidableEq, Repr

/-- What the sensors and straps last read. -/
structure Pins where
  present : Bool
  tab : Bool
  straps : Nat
  deriving DecidableEq, Repr

/-- The state of the 7140. -/
structure State where
  csq : Csq
  spc : Spc
  svc : Svc
  txe : Txe
  sgc : Sgc
  smn : Smn
  lif : Lif
  pins : Pins
  pending : List Instr
  deriving DecidableEq, Repr

/-! ### Messages between the blocks -/

/-- The reports and requests the blocks send one another within one event ("Where one block needs state that another owns, it reads
that state or sends a request to the owner"). They live within one command and are no part of State. -/
inductive Signal where
  /-- SPC to CSQ and TXE (R43). -/
  | spinUpComplete | spinUpFailed | lockLost | lockRegained | stopConfirmed | rotationPersists
  /-- SVC to a requester (R77). -/
  | onTrack (r : Requester)
  | seekError (r : Requester)
  /-- SVC to CSQ (R70, R73, R93, R99). -/
  | followReached
  | parked (c : RetractCause)
  | calibrationDue
  | passEnded
  /-- TXE and SGC to CSQ (R12, R156). -/
  | labelReadEnded
  | flushComplete
  | flushFailed (d : Detail)
  | flushHeld
  /-- SMN to CSQ (R160, R166). -/
  | park | retract | gateCheck
  /-- The slot has become empty (R124); the requests of lower rank may be made again (R154). -/
  | slotFree | slotIdle
  /-- A READ that read from the medium has ended well (R148). -/
  | readAhead (first count : Nat)
  /-- An order has ended (R176, R154); dispatch may take place (R177). -/
  | orderEnded | dispatch
  /-- The owner ends the executing order once all that its act has set off is done (R169). -/
  | orderDone (o : Outcome)
  /-- READY has been entered, with eject pending set or clear at that moment (R6); or, after a reload, FLUSH has been entered. -/
  | readyEntered (eject : Bool)
  | flushResumed
  /-- Answer an immediate order with a STATUS_REPORT (R180, R181). -/
  | statusReport (tag : Nat) (result : Option AbortResult) (removed : Nat) (clear : ClearSet)
  deriving DecidableEq, Repr

/-- What a block does at an event: the new state, and the messages it sends, first to last. -/
structure Act where
  state : State
  signals : List Signal
  deriving DecidableEq, Repr

/-! ### Setters -/

/-- Change the CSQ's record. -/
def State.modCsq (s : State) (f : Csq → Csq) : State := { s with csq := f s.csq }
/-- Change the SPC's record. -/
def State.modSpc (s : State) (f : Spc → Spc) : State := { s with spc := f s.spc }
/-- Change the SVC's record. -/
def State.modSvc (s : State) (f : Svc → Svc) : State := { s with svc := f s.svc }
/-- Change the TXE's record. -/
def State.modTxe (s : State) (f : Txe → Txe) : State := { s with txe := f s.txe }
/-- Change the SGC's record. -/
def State.modSgc (s : State) (f : Sgc → Sgc) : State := { s with sgc := f s.sgc }
/-- Change the SMN's record. -/
def State.modSmn (s : State) (f : Smn → Smn) : State := { s with smn := f s.smn }
/-- Change the LIF's record. -/
def State.modLif (s : State) (f : Lif → Lif) : State := { s with lif := f s.lif }
/-- Change what the sensors read. -/
def State.modPins (s : State) (f : Pins → Pins) : State := { s with pins := f s.pins }

/-! ### Reset -/

/-- No departure cause. -/
def noCauses : Causes :=
  { stopOrder := false, ejectOrder := false, button := false, standby := false, park := false }

/-- The CSQ after power-on reset, before R2 reads the presence sensor (R1). -/
def resetCsq : Csq :=
  { lifecycle := .empty, stopReason := .insert, departureReason := .insert, faultHold := false,
    removalPrevented := false, spinUpRequest := false, ejectPending := false, causes := noCauses,
    loadAttempts := 0, reloads := 0, returnState := .nowhere, ejectPulses := 0, ejectRound := .first,
    writeProtected := false, debounce := none, ejectCheck := none, standby := none, grace := none,
    lockEngaged := false, oneShot := none, buttonReady := true, insertedDue := false, ejectByButton := false,
    carried := none }

/-- The SPC after power-on reset (R30). -/
def resetSpc : Spc :=
  { state := .still, driveEnable := false, brakeLevel := 0, brakingRound := 0, brakeStepTimer := none,
    phase := .idle, windowOpened := false, timeBase := 0, pulseCounter := 0, inBandRun := 0,
    outOfBandRun := 0, noRotationRun := 0, speedLock := false, spinUpPending := false, spinUpTimer := none,
    lastCheckConfirmed := true, rotationReported := false, checkWaitTimer := none }

/-- The position record after power-on reset (R53). -/
def resetPosition : Position :=
  { present := false, p := 0, v := 0, latestValid := false, band := 0, latestWedge := none, missed := 0, totalMissed := 0 }

/-- The calibration record after power-on reset (R92). -/
def resetCalibration : Calibration :=
  { due := true, temperature := none, bandsDone := [], lastResult := .noResult, stage := .idle, band := 0,
    gathered := 0, bandSum := 0, falls := 0, passOrder := none }

/-- The SVC after power-on reset (R65, R78, R90). -/
def resetSvc : Svc :=
  { pos := resetPosition, mode := .parked, command := -8, saturated := false, targetCylinder := 0,
    targetHead := 0, retryOffset := 0, requester := .nobody, seekStatus := .noSeek, timeoutCount := 0,
    loadCount := 0, settleCount := 0, integrator := 0, latestError := 0, writePermission := false,
    retractTimer := none, retractCause := .requested, seekErrors := 0, termP := 0, termI := 0,
    profile := Config.romProfile, bias := Config.romBias, cal := resetCalibration }

/-- The TXE after power-on reset (R102, R123). The label store's contents are undefined; the model names zeros (assumption 3). -/
def resetTxe : Txe :=
  { zones := Config.romZones, capacity := 71736, spareCount := 192, defects := [], record := none,
    labelStatus := .unread, labelModified := false, job := none, orderWaits := false,
    departureWaits := false, yieldPending := false, endPending := .no, jobRecovered := false, op := none,
    gate := false, holdTimer := none, retryCounter := 0, missedRevolutions := 0,
    labelStore := [List.replicate 512 0, List.replicate 512 0, List.replicate 512 0], sentField := none }

/-- A segment that is FREE. -/
def freeSegment : Segment := { base := 0, valid := [], dirty := [], attachment := .free }

/-- The SGC after power-on reset (R140). The buffer lists nothing (assumption 2). -/
def resetSgc : Sgc :=
  { segments := List.replicate 8 freeSegment, recency := [0, 1, 2, 3, 4, 5, 6, 7], buffer := [],
    mediaPort := false, linkPort := .idle, flushTimer := none, flushWanted := false, lostBlocks := 0,
    lastLost := none, heldDeparture := false }

/-- A channel record after power-on reset (R161). -/
def resetChannel (l : Limits) : ChannelRecord :=
  { limits := l, latest := 0, runSide := .neither, runCount := 0, active := .neither, inRange := 0,
    lowFault := false, highFault := false }

/-- The limits of one channel of a table in schedule order. -/
def limitsAt (t : List Limits) (i : Nat) : Limits :=
  t.getD i { low := 0, lowAction := .noAction, lowPersistence := 1, high := 0, highAction := .noAction,
             highPersistence := 1, armed := .always }

/-- The SMN after power-on reset (R159 to R162). -/
def resetSmn : Smn :=
  { slot := .v12, slotTimer := Config.slotTime, v12 := resetChannel (limitsAt Config.romLimits 0),
    v5 := resetChannel (limitsAt Config.romLimits 1), temp := resetChannel (limitsAt Config.romLimits 2),
    ispin := resetChannel (limitsAt Config.romLimits 3), iact := resetChannel (limitsAt Config.romLimits 4),
    roundComplete := false }

/-- The LIF after power-on reset (R171), with the address of the straps. -/
def resetLif (straps : Nat) : Lif :=
  { driveAddress := straps, orderQueue := [], executing := none, expectedIndex := 0, reports := [],
    notices := 0, settings := Config.romSettings, crcDiscards := 0, attention := false, loadImage := [],
    readImage := [], readIndex := 0, exchange := .noFrame, cable := [] }

/-- The machine right after power-on reset with no cartridge in the drive (R2) and the straps at address 0 (assumption 1); no
command waits. -/
def State.reset : State :=
  { csq := resetCsq, spc := resetSpc, svc := resetSvc, txe := resetTxe, sgc := resetSgc, smn := resetSmn,
    lif := resetLif 0, pins := { present := false, tab := false, straps := 0 }, pending := [] }

end Sys2Proof.Machine
end

