-- ==== Sys2Proof/Machine/Ops.lean ====
section
/-! DEFINITION. The named operations over the blocks' records: messages, arithmetic, the buffer memory, sets and
recency, segments, lifecycle entry, timers, and the end of an order. -/

namespace Sys2Proof.Machine

/-! ### Messages -/

/-- A state with no message to send. -/
def done (s : State) : Act := { state := s, signals := [] }

/-- A state with one message to send. -/
def send (g : Signal) (s : State) : Act := { state := s, signals := [g] }

/-- One action after another; the messages stand in the order they were sent. -/
def Act.andThen (a : Act) (f : State → Act) : Act :=
  { state := (f a.state).state, signals := a.signals ++ (f a.state).signals }

/-! ### Arithmetic (Conventions) -/

/-- "Rounded" division by a positive number: to the nearest integer, halves away from zero. -/
def roundDiv (a b : Int) : Int :=
  if 0 ≤ a then (2 * a + b) / (2 * b) else -((2 * -a + b) / (2 * b))

/-- "Clamped to a range". -/
def clamp (lo hi x : Int) : Int := if x < lo then lo else if hi < x then hi else x

/-- A counter that saturates. -/
def satAdd (top n k : Nat) : Nat := if top < n + k then top else n + k

/-! ### The buffer memory (R140)

Cells in strictly rising address order, none equal to what an unlisted address reads as. -/

/-- How many bytes the buffer has. -/
def bufferSize : Nat := 65536

/-- What a byte of the buffer that nothing has written reads as (assumption 2). -/
def blankByte : Byte := 0

/-- The byte at an address. -/
def readByte : List Host.Cell → Nat → Byte
  | [], _ => blankByte
  | (a, b) :: t, k => if k < a then blankByte else if k = a then b else readByte t k

/-- Store a byte whose address lies in the buffer. -/
def storeByte : List Host.Cell → Nat → Byte → List Host.Cell
  | [], k, v => if v = blankByte then [] else [(k, v)]
  | (a, b) :: t, k, v =>
      if k < a then (if v = blankByte then (a, b) :: t else (k, v) :: (a, b) :: t)
      else if k = a then (if v = blankByte then t else (k, v) :: t)
      else (a, b) :: storeByte t k v

/-- Write a byte; the buffer has no byte at or above its size. -/
def writeByte (m : List Host.Cell) (k : Nat) (v : Byte) : List Host.Cell :=
  if k < bufferSize then storeByte m k v else m

/-- Write a run of bytes from an address on. -/
def writeBytes (m : List Host.Cell) (k : Nat) : List Byte → List Host.Cell
  | [] => m
  | b :: t => writeBytes (writeByte m k b) (k + 1) t

/-- Read `n` bytes from an address on. -/
def readBytes (m : List Host.Cell) (k : Nat) : Nat → List Byte
  | 0 => []
  | n + 1 => readByte m k :: readBytes m (k + 1) n

/-- The canonical form of the buffer's cells. -/
def memoryWf : List Host.Cell → Bool
  | [] => true
  | (a, b) :: t =>
      decide (b ≠ blankByte) && decide (a < bufferSize) &&
        (match t with | [] => true | (c, _) :: _ => decide (a < c)) && memoryWf t

/-! ### Sets and the recency list -/

/-- Add a number to an ascending list without repeats. -/
def insertNat (o : Nat) : List Nat → List Nat
  | [] => [o]
  | x :: t => if o < x then o :: x :: t else if o = x then x :: t else x :: insertNat o t

/-- Take a number out of a list. -/
def eraseNat (o : Nat) (l : List Nat) : List Nat := l.filter (fun x => x != o)

/-- Move a segment to the front of the recency list (R141). -/
def toFront (i : Nat) (l : List Nat) : List Nat := i :: eraseNat i l

/-- Move a segment to the back of the recency list (R141). -/
def toBack (i : Nat) (l : List Nat) : List Nat := eraseNat i l ++ [i]

/-! ### Segments (R140) -/

/-- The base of the window of a block. -/
def windowBase (n : Nat) : Nat := n / 16 * 16

/-- The segment record with a number. -/
def segmentAt (s : State) (i : Nat) : Segment := s.sgc.segments.getD i freeSegment

/-- Change one segment record. -/
def modSegment (i : Nat) (f : Segment → Segment) (s : State) : State :=
  s.modSgc fun g => { g with segments := g.segments.modify i f }

/-- DIRTY: its dirty set is not empty. -/
def Segment.isDirty (g : Segment) : Bool := !g.dirty.isEmpty

/-- CLEAN: valid blocks and no dirty one. -/
def Segment.isClean (g : Segment) : Bool := !g.valid.isEmpty && g.dirty.isEmpty

/-- FREE: neither DIRTY nor CLEAN. -/
def Segment.isFree (g : Segment) : Bool := g.valid.isEmpty && g.dirty.isEmpty

/-- A segment holds its window when its valid set is not empty or it is attached (R140). -/
def Segment.holdsWindow (g : Segment) : Bool := !g.valid.isEmpty || g.attachment != .free

/-- The segment that holds a window, if any (R142). -/
def findWindow (base : Nat) (s : State) : Option Nat :=
  s.sgc.segments.findIdx? fun g => g.base == base && g.holdsWindow

/-- A block is valid in the segment of its window. -/
def blockValid (n : Nat) (s : State) : Bool :=
  match findWindow (windowBase n) s with
  | some i => (segmentAt s i).valid.contains (n % 16)
  | none => false

/-- The least recent segment with a property. -/
def leastRecent (p : Segment → Bool) (s : State) : Option Nat :=
  s.sgc.recency.reverse.find? fun i => p (segmentAt s i)

/-- The dirty block count (R140). -/
def dirtyCount (s : State) : Nat := (s.sgc.segments.map fun g => g.dirty.length).sum

/-- Flush wanted is cleared when the dirty block count falls to 0 (R154). -/
def dropWantedIfClean (s : State) : State :=
  if dirtyCount s = 0 then s.modSgc fun g => { g with flushWanted := false } else s

/-- The address of a block's first byte in a segment (R140). -/
def blockAddress (seg n : Nat) : Nat := 8192 * seg + 512 * (n % 16)

/-- Store the bytes of a block into its place. -/
def storeBlock (seg n : Nat) (data : List Byte) (s : State) : State :=
  s.modSgc fun g => { g with buffer := writeBytes g.buffer (blockAddress seg n) (data.take 512) }

/-- The 512 bytes of a block's place. -/
def loadBlock (seg n : Nat) (s : State) : List Byte := readBytes s.sgc.buffer (blockAddress seg n) 512

/-- A block leaves the valid and the dirty set of its segment. -/
def dropBlock (seg n : Nat) (s : State) : State :=
  dropWantedIfClean (modSegment seg (fun g =>
    { g with valid := eraseNat (n % 16) g.valid, dirty := eraseNat (n % 16) g.dirty }) s)

/-- A block joins the valid set. -/
def addValid (seg n : Nat) (s : State) : State :=
  modSegment seg (fun g => { g with valid := insertNat (n % 16) g.valid }) s

/-- A block joins the valid and the dirty set (R149, R112). -/
def addDirty (seg n : Nat) (s : State) : State :=
  modSegment seg (fun g =>
    { g with valid := insertNat (n % 16) g.valid, dirty := insertNat (n % 16) g.dirty }) s

/-- A block leaves the dirty set and stays valid (R152). -/
def clearDirty (seg n : Nat) (s : State) : State :=
  dropWantedIfClean (modSegment seg (fun g => { g with dirty := eraseNat (n % 16) g.dirty }) s)

/-- Give a segment an attachment. -/
def attach (a : Attachment) (i : Nat) (s : State) : State := modSegment i (fun g => { g with attachment := a }) s

/-- A segment becomes most recent. -/
def makeRecent (i : Nat) (s : State) : State := s.modSgc fun g => { g with recency := toFront i g.recency }

/-- A segment becomes least recent. -/
def makeStale (i : Nat) (s : State) : State := s.modSgc fun g => { g with recency := toBack i g.recency }

/-- Every segment returns to attachment NONE (R143, at the end of the job that attached them). -/
def releaseAll (s : State) : State :=
  s.modSgc fun g => { g with segments := g.segments.map fun x => { x with attachment := .free } }

/-- Make every segment FREE, in ascending segment number (R143). -/
def freeAll (s : State) : State :=
  dropWantedIfClean (s.modSgc fun g =>
    { g with segments := g.segments.map fun x => { x with valid := [], dirty := [], attachment := .free },
             recency := (List.range g.segments.length).foldl (fun r i => toBack i r) g.recency })

/-! ### The buffer port (R137) -/

/-- The media side takes the port; a link-side transfer is suspended. -/
def mediaTake (s : State) : State :=
  s.modSgc fun g => { g with mediaPort := true, linkPort := if g.linkPort = .active then .suspended else g.linkPort }

/-- The media side releases the port; a suspended link-side transfer goes on. -/
def mediaRelease (s : State) : State :=
  s.modSgc fun g => { g with mediaPort := false, linkPort := if g.linkPort = .suspended then .active else g.linkPort }

/-- The link side asks for the port; it waits while the media side holds it. How long it then holds it is the model's choice (assumption 52). -/
def linkTake (s : State) : State :=
  s.modSgc fun g => { g with linkPort := if g.mediaPort then .suspended else .active }

/-- The link side is done with the port. -/
def linkRelease (s : State) : State := s.modSgc fun g => { g with linkPort := .idle }

/-! ### Timers and lifecycle entry -/

/-- Restart the standby timer from the standby delay setting, in READY (R14). -/
def restartStandby (s : State) : State :=
  if s.csq.lifecycle = .ready then
    s.modCsq fun c => { c with standby := if s.lif.settings.standbyDelay = 0 then none else some (s.lif.settings.standbyDelay * 60000000) }
  else s

/-- Start the flush-delay timer, in READY, with the setting not 0 (R154). -/
def startFlushTimer (s : State) : State :=
  if s.csq.lifecycle = .ready ∧ s.lif.settings.flushDelay ≠ 0 then
    s.modSgc fun g => { g with flushTimer := some (s.lif.settings.flushDelay * 100000) }
  else s

/-- Enter a lifecycle state, stopping what the state left behind may not keep running: the debounce timer outside SEATING
(R4), the eject check timer and a pulse outside EJECT (R8, R18), the standby timer outside READY (R14), the grace timer outside
READY, FLUSH and CALIBRATE (R22), the flush-delay timer outside READY (R154), a held departure outside FLUSH (R156). -/
def enter (l : Lifecycle) (s : State) : State :=
  (s.modCsq fun c =>
    { c with lifecycle := l,
             debounce := if l = .seating then c.debounce else none,
             ejectCheck := if l = .eject then c.ejectCheck else none,
             oneShot := if l = .eject then c.oneShot else none,
             standby := if l = .ready then c.standby else none,
             grace := if l = .ready ∨ l = .flush ∨ l = .calibrate then c.grace else none }).modSgc fun g =>
    { g with flushTimer := if l = .ready then g.flushTimer else none,
             heldDeparture := if l = .flush then g.heldDeparture else false }

/-! ### Orders (R171, R176) -/

/-- The kind code of an order (section 11.2). -/
def OrderKind.code : OrderKind → Nat
  | .start => 0x10
  | .stop => 0x11
  | .eject _ => 0x12
  | .removal _ => 0x13
  | .seek _ _ => 0x20
  | .read _ _ => 0x21
  | .write _ _ => 0x22
  | .flush => 0x23
  | .reassign _ => 0x24
  | .commitLabel _ => 0x25
  | .calibrate => 0x26
  | .loadTable _ _ => 0x30
  | .readTable _ => 0x31
  | .set _ => 0x32

/-- The orders that need the medium (R25). -/
def OrderKind.needsMedium : OrderKind → Bool
  | .seek _ _ | .read _ _ | .write _ _ | .flush | .reassign _ | .commitLabel _ | .calibrate => true
  | _ => false

/-- The detail that every report of an order carries, whatever ends it: the cylinder of a SEEK (R139) and the block of a REASSIGN (R111); the other
rules name one for some of their reports only, and those that remain carry none (R171). -/
def OrderKind.detail : OrderKind → Detail
  | .seek cylinder _ => .cylinder cylinder
  | .reassign block => .block block
  | _ => .noDetail

/-- The detail of the reports for which an order's rule names its table: the answer of a table's owner to a LOAD_TABLE and the DONE of a READ_TABLE
(R178), LABEL for the refusals of a COMMIT_LABEL (R119, the model's reading, assumption 17), BIAS for a CALIBRATE whose pass has ended (R101). -/
def OrderKind.ownDetail : OrderKind → Detail
  | .commitLabel _ => .table 6
  | .calibrate => .table 2
  | .loadTable id _ => .table id
  | .readTable id => .table id
  | k => k.detail

/-- Set the executing order's stage. -/
def setStage (st : Stage) (s : State) : State :=
  s.modLif fun l => { l with executing := l.executing.map fun e => { e with stage := st } }

/-- Set the executing order's blocks done. -/
def setBlocks (n : Nat) (s : State) : State :=
  s.modLif fun l => { l with executing := l.executing.map fun e => { e with blocks := n } }

/-- The executing order's blocks done. -/
def blocksDone (s : State) : Nat :=
  match s.lif.executing with
  | some e => e.blocks
  | none => 0

/-- A data frame of the executing order that the host has not answered is dropped when the order ends. -/
def dropDataFrame : Exchange → Exchange
  | .block _ | .image | .spoiled => .noFrame
  | x => x

/-- The executing order ends: its report joins the queue with the lifecycle state of this moment (R176); a remnant's end
queues no report (R182). -/
def endOrder (o : Outcome) (d : Detail) (n : Nat) (s : State) : Act :=
  match s.lif.executing with
  | none => done s
  | some e =>
      send (if e.remnant then .dispatch else .orderEnded) ((linkRelease s).modLif fun l =>
        { l with executing := none, loadImage := [], readImage := [], readIndex := 0, exchange := dropDataFrame l.exchange,
                 reports := if e.remnant then l.reports
                   else l.reports ++ [{ tag := e.order.tag, kind := e.order.kind, outcome := o, blocks := n,
                                        detail := d, lifecycle := s.csq.lifecycle }] })

/-- The executing order ends with the detail its kind always carries. -/
def endPlain (o : Outcome) (s : State) : Act :=
  match s.lif.executing with
  | none => done s
  | some e => endOrder o e.order.kind.detail e.blocks s

/-- The executing order ends as its owner's rule answers it, with the detail that rule names (R101, R119, R178). -/
def endOwned (o : Outcome) (s : State) : Act :=
  match s.lif.executing with
  | none => done s
  | some e => endOrder o e.order.kind.ownDetail e.blocks s

/-- The executing order, while it still has its tag. -/
def liveKind (s : State) : Option OrderKind :=
  match s.lif.executing with
  | some e => if e.remnant then none else some e.order.kind
  | none => none

/-- An EJECT order is executing. -/
def ejectExecuting (s : State) : Bool :=
  match liveKind s with
  | some (.eject _) => true
  | _ => false

/-- A STOP order is executing. -/
def stopExecuting (s : State) : Bool := liveKind s == some .stop

/-- The orders that a start does not decide: STOP and EJECT wait for READY or STOPPED (R27, R28). -/
def OrderKind.leaves : OrderKind → Bool
  | .stop | .eject _ => true
  | _ => false

/-- A START order or an order that needs the medium waits in execution for a start (R25, R26). -/
def startAwaited (s : State) : Bool :=
  match s.lif.executing with
  | some e => !e.remnant && e.stage == .waitStart && !e.order.kind.leaves
  | none => false

/-- End the order that waits for a start, if there is one (R10, R11, R24, R25). -/
def endAwaited (o : Outcome) (s : State) : Act := if startAwaited s then endPlain o s else done s

end Sys2Proof.Machine
end

