-- ==== Sys2Proof/Machine/Flags.lean ====
section
/-! DEFINITION. The flags and output lines that follow from other state: notices and the attention line (R183), write hold (R167),
the conditions of the write gate (R131), the spin-up gates (R9), and the codes of the status flags. -/

namespace Sys2Proof.Machine

/-! ### Notices and attention (R183) -/

/-- A notice's bit in the 16-bit set of section 11.2. -/
def Notice.bit : Notice → Word16
  | .inserted => 0x0001#16
  | .ejected => 0x0002#16
  | .ejectRequest => 0x0004#16
  | .jammed => 0x0008#16
  | .spinFault => 0x0010#16
  | .headFault => 0x0020#16
  | .speedLost => 0x0040#16
  | .servoLost => 0x0080#16
  | .monitor => 0x0100#16
  | .writeHold => 0x0200#16
  | .dataLost => 0x0400#16
  | .calFail => 0x0800#16

/-- Latch a notice; one already in the set stays (R183). -/
def latch (n : Notice) (s : State) : State := s.modLif fun l => { l with notices := l.notices ||| n.bit }

/-- A notice is in the set. -/
def latched (n : Notice) (s : State) : Bool := s.lif.notices &&& n.bit != 0

/-- What the attention line is to be: a report pending, or a notice outside the mask (R183). -/
def attentionOf (l : Lif) : Bool := !l.reports.isEmpty || (l.notices &&& ~~~l.settings.noticeMask != 0)

/-! ### Monitor conditions (R162, R166, R167) -/

/-- The record of a channel. -/
def channel (s : State) : Channel → ChannelRecord
  | .v12 => s.smn.v12
  | .v5 => s.smn.v5
  | .temp => s.smn.temp
  | .ispin => s.smn.ispin
  | .iact => s.smn.iact

/-- Change the record of a channel. -/
def modChannel (c : Channel) (f : ChannelRecord → ChannelRecord) (s : State) : State :=
  s.modSmn fun m =>
    match c with
    | .v12 => { m with v12 := f m.v12 }
    | .v5 => { m with v5 := f m.v5 }
    | .temp => { m with temp := f m.temp }
    | .ispin => { m with ispin := f m.ispin }
    | .iact => { m with iact := f m.iact }

/-- The five channels in schedule order (R159). -/
def channels : List Channel := [.v12, .v5, .temp, .ispin, .iact]

/-- The action of the condition in force on a channel, if any. -/
def ChannelRecord.action (r : ChannelRecord) : MonAction :=
  match r.active with
  | .neither => .noAction
  | .low => r.limits.lowAction
  | .high => r.limits.highAction

/-- Write hold: some channel has an active condition whose action is HOLD_WRITES (R167). -/
def writeHold (s : State) : Bool := channels.any fun c => (channel s c).action == .holdWrites

/-- A PARK or RETRACT condition is active on some channel: the spin-up gate is shut (R9, R166). -/
def gateShut (s : State) : Bool :=
  channels.any fun c => (channel s c).action == .park || (channel s c).action == .retract

/-! ### The write gate (R131) -/

/-- The six conditions under which the write gate may be open (R131). -/
def gateAllowed (s : State) : Bool :=
  s.svc.mode == .follow && s.svc.pos.latestValid && s.svc.writePermission && s.spc.speedLock &&
    !s.csq.writeProtected && !writeHold s && (s.csq.lifecycle == .ready || s.csq.lifecycle == .flush)

/-- The gate output is held closed whenever a condition fails (R131), and the attention line follows its sources (R183):
what every event leaves at these two outputs. -/
def finish (s : State) : State :=
  (s.modTxe fun t => { t with gate := t.gate && gateAllowed s }).modLif fun l => { l with attention := attentionOf l }

/-! ### Codes (section 11.2) -/

/-- Lifecycle state codes. -/
def Lifecycle.code : Lifecycle → Nat
  | .empty => 0
  | .seating => 1
  | .stopped => 2
  | .spinUp => 3
  | .headLoad => 4
  | .labelRead => 5
  | .calibrate => 6
  | .ready => 7
  | .flush => 8
  | .unload => 9
  | .spinDown => 10
  | .eject => 11
  | .jammed => 12

/-- Stop reason codes. -/
def StopReason.code : StopReason → Nat
  | .insert => 0
  | .standby => 1
  | .order => 2
  | .fault => 3

/-- Servo mode codes. -/
def ServoMode.code : ServoMode → Nat
  | .parked => 0
  | .loading => 1
  | .seek => 2
  | .settle => 3
  | .follow => 4
  | .retract => 5
  | .lost => 6

/-- Label status codes. -/
def LabelStatus.code : LabelStatus → Nat
  | .unread => 0
  | .valid => 1
  | .blank => 2
  | .bad => 3
  | .foreign => 4

/-- Outcome codes. -/
def Outcome.code : Outcome → Nat
  | .done => 0
  | .recovered => 1
  | .aborted => 2
  | .notReady => 3
  | .noCartridge => 4
  | .writeProtected => 5
  | .badParameter => 6
  | .outOfRange => 7
  | .dataError => 8
  | .seekError => 9
  | .writeFault => 10
  | .held => 11
  | .dirty => 12
  | .tableFull => 13
  | .noSpare => 14
  | .labelBad => 15
  | .foreign => 16
  | .flushFailed => 17
  | .prevented => 18
  | .jammed => 19
  | .spinFault => 20
  | .headFault => 21

/-- Monitor action codes. -/
def monActionCode : MonAction → Nat
  | .noAction => 0
  | .note => 1
  | .holdWrites => 2
  | .park => 3
  | .retract => 4

/-- Armed set codes. -/
def armedSetCode : ArmedSet → Nat
  | .always => 0
  | .spinning => 1
  | .ready => 2

/-- Codes of the condition active. -/
def Side.code : Side → Nat
  | .neither => 0
  | .low => 1
  | .high => 2

/-- Calibration result codes. -/
def PassResult.code : PassResult → Nat
  | .noResult => 0
  | .success => 1
  | .partialPass => 2

/-- Abort result codes; FFh for none. -/
def abortCode : Option AbortResult → Nat
  | none => 255
  | some .removed => 0
  | some .ending => 1
  | some .notAbortable => 2
  | some .completed => 3
  | some .unknown => 4

/-- Detail kind and value (section 11.3). -/
def Detail.codes : Detail → Nat × Nat
  | .noDetail => (0, 0)
  | .block n => (1, n)
  | .table id => (2, id)
  | .cylinder n => (3, n)

/-- A flag as a bit of a byte. -/
def flagBit (b : Bool) (n : Nat) : Nat := if b then 2 ^ n else 0

/-- The two fault-flag bytes: bit 2c the low flag, bit 2c + 1 the high flag of channel c (section 11.2); bits 10 to 15 are 0 (the model's choice,
assumption 47). -/
def faultFlags (s : State) : Nat :=
  flagBit s.smn.v12.lowFault 0 + flagBit s.smn.v12.highFault 1 + flagBit s.smn.v5.lowFault 2 +
    flagBit s.smn.v5.highFault 3 + flagBit s.smn.temp.lowFault 4 + flagBit s.smn.temp.highFault 5 +
    flagBit s.smn.ispin.lowFault 6 + flagBit s.smn.ispin.highFault 7 + flagBit s.smn.iact.lowFault 8 +
    flagBit s.smn.iact.highFault 9

end Sys2Proof.Machine
end

