-- ==== Sys2Proof/Machine/Spindle.lean ====
section
/-! DEFINITION. The Spindle Controller: the CSQ's three requests (R33, R35, R44), the speed counters in their three phases (R36
to R42), braking (R45) and the stop check (R46 to R48). Reports to the CSQ are messages (R43). -/

namespace Sys2Proof.Machine

/-! ### States and phases -/

/-- Enter a spindle state: the outputs follow it (R32). The brake level is the one given in BRAKING, and 0 elsewhere. -/
def Spc.enter (st : SpindleState) (level : Nat) (p : Spc) : Spc :=
  { p with state := st, driveEnable := st == .driving, brakeLevel := if st = .braking then level else 0 }

/-- Set the measurement phase; the speed lock is set in TRACK and clear in every other phase (R30). -/
def Spc.setPhase (ph : Phase) (p : Spc) : Spc := { p with phase := ph, speedLock := ph == .track }

/-- The interval a brake step timer start takes from the brake step setting (R45). -/
def brakeInterval (s : State) : Nat := if s.lif.settings.brakeSlow then 125000 else 62500

/-- The TRACK preset of the time base counter, −166,667 in 18 bits (R36). -/
def trackPreset : BitVec 18 := 95477#18

/-- Begin ACQUIRE: no window open, counters cleared (R33, R41). -/
def Spc.beginAcquire (p : Spc) : Spc :=
  { p.setPhase .acquire with windowOpened := false, timeBase := 0, pulseCounter := 0, inBandRun := 0 }

/-- Begin a TRACK window (R40). -/
def Spc.trackWindow (p : Spc) : Spc := { p with timeBase := trackPreset, pulseCounter := 0 }

/-- Begin a stop check window (R46). -/
def Spc.checkWindow (p : Spc) : Spc := { p with timeBase := 0, pulseCounter := 1 }

/-- Begin a stop check: CHECKING, phase STOPCHECK, no-rotation run 0 (R45, R46, R48). -/
def Spc.beginCheck (p : Spc) : Spc :=
  { (((p.enter .checking 0).setPhase .stopCheck).checkWindow) with noRotationRun := 0 }

/-! ### Requests from the CSQ -/

/-- The spin-up request (R33): taken in STILL only. -/
def spindleSpinUp (s : State) : State :=
  if s.spc.state = .still then
    s.modSpc fun p =>
      { (p.enter .driving 0).beginAcquire with
        spinUpPending := true, spinUpTimer := some Config.spinUpTime, lastCheckConfirmed := false,
        rotationReported := false, brakingRound := 0 }
  else s

/-- What a brake request does to the record, with the step interval then in force (R44). -/
def Spc.brake (interval : Nat) (p : Spc) : Spc :=
  { (p.enter .braking 8).setPhase .idle with
    spinUpTimer := none, spinUpPending := false, pulseCounter := 0, inBandRun := 0, outOfBandRun := 0,
    noRotationRun := 0, lastCheckConfirmed := false, rotationReported := false, brakingRound := 1,
    brakeStepTimer := some interval }

/-- The brake request (R44): taken in STILL, DRIVING and COASTING. -/
def spindleBrake (s : State) : Act :=
  match s.spc.state with
  | .still | .driving | .coasting =>
      { state := s.modSpc (Spc.brake (brakeInterval s)), signals := if s.spc.phase = .track then [.lockLost] else [] }
  | .braking | .checking | .waiting => done s

/-- The stop-driving request (R35): taken in DRIVING. -/
def spindleStopDriving (s : State) : Act :=
  if s.spc.state = .driving then
    { state := s.modSpc fun p => { (p.enter .coasting 0).setPhase .idle with spinUpTimer := none, spinUpPending := false },
      signals := if s.spc.phase = .track then [.lockLost] else [] }
  else done s

/-! ### The speed counters -/

/-- An ACQUIRE window result T is in band: 66,001 to 67,333 (R39). -/
def acquireInBand (t : Nat) : Bool := 66001 ≤ t && t ≤ 67333

/-- A TRACK window result C is good: 238 to 242 (R41). -/
def trackGood (c : Nat) : Bool := 238 ≤ c && c ≤ 242

/-- Gain the lock at the closing index pulse of a window (R39, R40). -/
def gainLock (s : State) : Act :=
  { state := s.modSpc fun p =>
      { (p.setPhase .track).trackWindow with
        inBandRun := 0, outOfBandRun := 0, spinUpPending := false,
        spinUpTimer := if p.spinUpPending then none else p.spinUpTimer },
    signals := [if s.spc.spinUpPending then .spinUpComplete else .lockRegained] }

/-- Lose the lock in TRACK (R41, R42). -/
def loseLock (s : State) : Act := send .lockLost (s.modSpc Spc.beginAcquire)

/-- An ACQUIRE window ends with result T, and the same pulse opens the next unless the lock is gained (R37, R39). -/
def acquireWindowEnd (s : State) : Act :=
  if acquireInBand s.spc.timeBase.toNat then
    if 2 ≤ s.spc.inBandRun + 1 then gainLock (s.modSpc fun p => { p with inBandRun := p.inBandRun + 1 })
    else done (s.modSpc fun p => { p with inBandRun := p.inBandRun + 1, timeBase := 0, pulseCounter := 4 })
  else done (s.modSpc fun p => { p with inBandRun := 0, timeBase := 0, pulseCounter := 4 })

/-- A stop check finds rotation (R47): brake again at half level, or after round 3 wait and report once. -/
def rotationFound (s : State) : Act :=
  if s.spc.brakingRound < 3 then
    done (s.modSpc fun p =>
      { (p.enter .braking 4).setPhase .idle with brakingRound := p.brakingRound + 1, brakeStepTimer := some (brakeInterval s) })
  else
    { state := s.modSpc fun p =>
        { (p.enter .waiting 0).setPhase .idle with checkWaitTimer := some Config.checkWaitTime, rotationReported := true },
      signals := if s.spc.rotationReported then [] else [.rotationPersists] }

/-- A stop check confirms the stop (R47). -/
def stopConfirm (s : State) : Act :=
  send .stopConfirmed (s.modSpc fun p =>
    { (p.enter .still 0).setPhase .idle with
      lastCheckConfirmed := true, checkWaitTimer := none, brakingRound := 0, rotationReported := false })

/-- An index pulse, by phase (R37, R46). -/
def indexPulseAct (s : State) : Act :=
  match s.spc.phase with
  | .acquire =>
      if s.spc.windowOpened then
        if s.spc.pulseCounter ≤ 1 then acquireWindowEnd (s.modSpc fun p => { p with pulseCounter := 0 })
        else done (s.modSpc fun p => { p with pulseCounter := p.pulseCounter - 1 })
      else done (s.modSpc fun p => { p with timeBase := 0, pulseCounter := 4, windowOpened := true })
  | .stopCheck => rotationFound (s.modSpc fun p => { p with pulseCounter := 0 })
  | .idle | .track => done s

/-- A commutation pulse (R40, R42). -/
def commutationAct (s : State) : Act :=
  match s.spc.phase with
  | .track =>
      if 250 ≤ s.spc.pulseCounter + 1 then loseLock (s.modSpc fun p => { p with pulseCounter := p.pulseCounter + 1 })
      else done (s.modSpc fun p => { p with pulseCounter := p.pulseCounter + 1 })
  | .idle | .acquire | .stopCheck => done s

/-- The time base counter overflows and reads 0, by phase (R36, R38, R40, R41, R46). In IDLE it does not count. -/
def overflowAct (s : State) : Act :=
  match s.spc.phase with
  | .idle => done s
  | .acquire =>
      done (s.modSpc fun p => { p with windowOpened := false, timeBase := 0, pulseCounter := 0, inBandRun := 0 })
  | .track =>
      if trackGood s.spc.pulseCounter then done (s.modSpc fun p => { p.trackWindow with outOfBandRun := 0 })
      else if 2 ≤ s.spc.outOfBandRun + 1 then loseLock (s.modSpc fun p => { p with outOfBandRun := p.outOfBandRun + 1 })
      else done (s.modSpc fun p => { p.trackWindow with outOfBandRun := p.outOfBandRun + 1 })
  | .stopCheck =>
      if 2 ≤ s.spc.noRotationRun + 1 then stopConfirm (s.modSpc fun p => { p with timeBase := 0, noRotationRun := p.noRotationRun + 1 })
      else done (s.modSpc fun p => { p.checkWindow with noRotationRun := p.noRotationRun + 1 })

/-! ### Timers -/

/-- The spin-up timer runs out (R34). -/
def spinUpTimerAct (s : State) : Act :=
  if s.spc.spinUpTimer.isSome then
    send .spinUpFailed (s.modSpc fun p =>
      { (p.enter .coasting 0).setPhase .idle with pulseCounter := 0, inBandRun := 0, spinUpPending := false, spinUpTimer := none })
  else done s

/-- The brake step timer runs out in BRAKING (R45). -/
def brakeStepAct (s : State) : Act :=
  if s.spc.brakeStepTimer.isSome ∧ s.spc.state = .braking then
    if 2 ≤ s.spc.brakeLevel then
      done (s.modSpc fun p => { p with brakeLevel := p.brakeLevel - 1, brakeStepTimer := some (brakeInterval s) })
    else done (s.modSpc fun p => { p.beginCheck with brakeStepTimer := none })
  else done s

/-- The check wait timer runs out in WAITING (R48). -/
def checkWaitAct (s : State) : Act :=
  if s.spc.checkWaitTimer.isSome ∧ s.spc.state = .waiting then
    done (s.modSpc fun p => { p.beginCheck with checkWaitTimer := none })
  else done s

end Sys2Proof.Machine
end

