-- ==== Sys2Proof/Machine/Cache.lean ====
section
/-! DEFINITION. The Segment Cache's answers: lookup and allocation of a window's segment (R141, R142, R145), and the account of lost and
discarded blocks (R157, R158). -/

namespace Sys2Proof.Machine

/-- The answer to a request for a window's segment (R142). -/
inductive SegmentAnswer where
  | given (i : Nat)
  | flushFirst (i : Nat)
  | wait
  deriving DecidableEq, Repr

/-- Case 1 of R142: the least recent FREE segment that holds no window. -/
def freeCandidate (s : State) : Option Nat := leastRecent (fun g => g.isFree && g.attachment == .free) s

/-- Case 2 of R142: the least recent CLEAN segment with attachment NONE. -/
def cleanCandidate (s : State) : Option Nat := leastRecent (fun g => g.isClean && g.attachment == .free) s

/-- Case 3 of R142: the least recent DIRTY segment with attachment NONE. -/
def dirtyCandidate (s : State) : Option Nat := leastRecent (fun g => g.isDirty && g.attachment == .free) s

/-- The segment that cases 1 and 2 of R142 allocate. -/
def candidate (s : State) : Option Nat :=
  match freeCandidate s with
  | some i => some i
  | none => cleanCandidate s

/-- Allocate a segment to a window (R142): its sets are emptied, it takes base and attachment, and becomes most recent. -/
def allocate (i base : Nat) (a : Attachment) (s : State) : State :=
  makeRecent i (modSegment i (fun g => { g with base := base, valid := [], dirty := [], attachment := a }) s)

/-- A job asks for the segment of the window of a block (R142). The segment that holds it is attached to the asker, unless it is already; a READ order's
attaching makes it most recent (R141, R144). -/
def askSegment (n : Nat) (a : Attachment) (reading : Bool) (s : State) : State × SegmentAnswer :=
  match findWindow (windowBase n) s with
  | some i =>
      if (segmentAt s i).attachment = a then (s, .given i)
      else (if reading then makeRecent i (attach a i s) else attach a i s, .given i)
  | none =>
      match candidate s with
      | some i => (allocate i (windowBase n) a s, .given i)
      | none =>
          match dirtyCandidate s with
          | some i => (s, .flushFirst i)
          | none => (s, .wait)

/-- The place for a block whose wanted mark has come, when no segment held its window before: cases 1 and 2 are tried again (R145). -/
def placeAtMark (n : Nat) (a : Attachment) (s : State) : State × Option Nat :=
  match findWindow (windowBase n) s with
  | some i => (s, some i)
  | none =>
      match candidate s with
      | some i => (allocate i (windowBase n) a s, some i)
      | none => (s, none)

/-- The DIRTY segment with the lowest base, which a full flush takes next (R152). -/
def lowestDirty (s : State) : Option Nat :=
  (List.range s.sgc.segments.length).foldl (fun best i =>
    if (segmentAt s i).isDirty then
      match best with
      | none => some i
      | some j => if (segmentAt s i).base < (segmentAt s j).base then some i else best
    else best) none

/-- The lowest dirty block of a segment (R152: ascending order, read afresh before each block). -/
def firstDirty (i : Nat) (s : State) : Option Nat :=
  (segmentAt s i).dirty.head?.map fun o => (segmentAt s i).base + o

/-- A segment to be flushed, which holds its window, is attached FLUSH, unless a write-through order holds it (R152). -/
def attachFlush (i : Nat) (s : State) : State :=
  modSegment i (fun g => if g.holdsWindow then { g with attachment := if g.attachment = .order then .order else .flush } else g) s

/-- A dirty block is lost to a parity error (R158): it leaves both sets and is counted, named and notified. -/
def loseBlock (seg n : Nat) (s : State) : State :=
  latch .dataLost ((dropBlock seg n s).modSgc fun g =>
    { g with lostBlocks := satAdd 65535 g.lostBlocks 1, lastLost := some n })

/-- Every dirty block leaves its dirty and its valid set (R157, step 2). -/
def Segment.dropDirty (g : Segment) : Segment :=
  { g with valid := g.valid.filter (fun o => !g.dirty.contains o), dirty := [] }

/-- DISCARD in the cache (R157, steps 2 and 3). -/
def discardBlocks (s : State) : State :=
  let n := dirtyCount s
  let s1 := s.modSgc fun g =>
    { g with segments := g.segments.map Segment.dropDirty, lostBlocks := satAdd 65535 g.lostBlocks n, flushWanted := false }
  if 0 < n then latch .dataLost s1 else s1

end Sys2Proof.Machine
end

