-- ==== Sys2Proof/Machine/Servo.lean ====
section
/-! DEFINITION. The Servo Controller's requests and laws: the sample tests and position arithmetic (R54 to R60), the position record,
head load, retraction and LOST (R68 to R73), the seek target (R75, R76), the profile (R80) and the two command laws (R81, R83). -/

namespace Sys2Proof.Machine

/-! ### The position record -/

/-- Clear the position record (R53): the band and the total missed-sample counter are kept. -/
def Position.clear (q : Position) : Position :=
  { q with present := false, p := 0, v := 0, latestValid := false, latestWedge := none, missed := 0 }

/-- Tests 1 to 4 of R54. -/
def recordGood (r : ServoRecord) : Bool :=
  r.sync && r.trackValid && decide (r.cylinder ≤ 1199) && decide (40 ≤ r.burstA + r.burstB)

/-- The offset O of a sample that passes tests 1 to 4 (R55). -/
def offsetOf (r : ServoRecord) : Int :=
  clamp (-128) 127 (roundDiv (128 * ((r.burstA : Int) - r.burstB)) ((r.burstA : Int) + r.burstB))

/-- The position P of such a sample (R56). -/
def positionOf (r : ServoRecord) : Int := 256 * (r.cylinder : Int) + offsetOf r

/-- The band of a sample (R56). -/
def bandOf (r : ServoRecord) : Nat := r.cylinder / 150

/-- Test 5 of R54: within 512 pu of the prediction, when a position is present. -/
def plausible (q : Position) (r : ServoRecord) : Bool :=
  !q.present || decide ((positionOf r - (q.p + q.v)).natAbs ≤ 512)

/-- A sample is valid when all five tests pass (R54). -/
def sampleValid (q : Position) (r : ServoRecord) : Bool := recordGood r && plausible q r

/-- A valid sample updates the position record (R57). -/
def Position.measure (r : ServoRecord) (q : Position) : Position :=
  { q with p := positionOf r, v := clamp (-4095) 4095 (positionOf r - q.p), band := bandOf r,
           latestValid := true, missed := 0, latestWedge := some r.wedge }

/-- A missed sample is predicted and counted (R58). -/
def Position.predict (wedge : Nat) (q : Position) : Position :=
  { q with p := q.p + q.v, latestValid := false, missed := q.missed + 1,
           totalMissed := satAdd 65535 q.totalMissed 1, latestWedge := some wedge }

/-- The first valid sample of a head load opens the position record (R60). -/
def Position.start (r : ServoRecord) (q : Position) : Position :=
  { q with present := true, p := positionOf r, v := 0, band := bandOf r, latestValid := true, missed := 0,
           latestWedge := some r.wedge }

/-! ### Retraction (R71 to R73) -/

/-- Set the command, the timer and write permission of a retraction (R71, R72). -/
def Svc.retractTo (m : ServoMode) (c : RetractCause) (v : Svc) : Svc :=
  { v with mode := m, retractCause := c, command := -60, saturated := false, retractTimer := some Config.retractTime, writePermission := false }

/-- The report a cut-off or replaced seek sends its requester: TRANSFER and CALIBRATION receive SEEK_ERROR (R77). -/
def seekErrorTo (r : Requester) : List Signal :=
  if r = .transfer ∨ r = .calibration then [.seekError r] else []

/-- A seek that is cut off while OUTSTANDING (R71, R72). -/
def cutOffSeek (s : State) : Act :=
  if s.svc.seekStatus = .outstanding then
    { state := s.modSvc fun v => { v with requester := .nobody, seekStatus := .noSeek, seekErrors := satAdd 65535 v.seekErrors 1 },
      signals := seekErrorTo s.svc.requester }
  else done s

/-- The RETRACT request (R71). -/
def servoRetract (s : State) : Act :=
  match s.svc.mode with
  | .loading | .seek | .settle | .follow => cutOffSeek (s.modSvc (Svc.retractTo .retract .requested))
  | .retract => done (s.modSvc fun v => { v with retractCause := .requested })
  | .lost => done (s.modSvc fun v => { v with mode := .retract, retractCause := .requested })
  | .parked => send (.parked .requested) s

/-- The SVC enters RETRACT on its own at a failed load (R69, R87). -/
def loadFailure (s : State) : State := s.modSvc (Svc.retractTo .retract .loadFailed)

/-- The SVC enters LOST (R72). -/
def servoLost (s : State) : Act := cutOffSeek (s.modSvc (Svc.retractTo .lost .lost))

/-- The retract timer runs out in RETRACT or LOST (R73). -/
def retractTimerAct (s : State) : Act :=
  if s.svc.retractTimer.isSome ∧ (s.svc.mode = .retract ∨ s.svc.mode = .lost) then
    send (.parked s.svc.retractCause) (s.modSvc fun v =>
      { v with mode := .parked, command := -8, saturated := false, pos := v.pos.clear, settleCount := 0,
               timeoutCount := 0, loadCount := 0, retractTimer := none })
  else done s

/-! ### Head load (R68) -/

/-- The load request, taken in PARKED. -/
def servoLoad (s : State) : Act :=
  if s.svc.mode = .parked then
    if s.spc.speedLock then
      done (s.modSvc fun v =>
        { v with mode := .loading, command := 24, saturated := false, targetCylinder := 0, targetHead := 0,
                 retryOffset := 0, requester := .load, seekStatus := .noSeek, loadCount := 0, timeoutCount := 0,
                 integrator := 0, pos := v.pos.clear })
    else send (.parked .loadFailed) s
  else done s

/-! ### The seek target (R75, R76) -/

/-- A request that names the cylinder and retry offset held, with the other head (R76). -/
def isHeadSwitch (cylinder head : Nat) (offset : Int) (v : Svc) : Bool :=
  v.targetCylinder == cylinder && v.retryOffset == offset && v.targetHead != head

/-- The previous seek, if OUTSTANDING and of another requester, is told SEEK_ERROR and counted (R75, R76, R77). -/
def replacedSeek (r : Requester) (v : Svc) : List Signal :=
  if v.seekStatus = .outstanding ∧ v.requester ≠ r then seekErrorTo v.requester else []

/-- The seek error counter after a request of a requester is taken (R77). -/
def errorsAfterRequest (r : Requester) (v : Svc) : Nat :=
  if v.seekStatus = .outstanding ∧ v.requester ≠ r then satAdd 65535 v.seekErrors 1 else v.seekErrors

/-- A new seek (R75). -/
def Svc.newSeek (r : Requester) (cylinder head : Nat) (offset : Int) (v : Svc) : Svc :=
  { v with targetCylinder := cylinder, targetHead := head, retryOffset := offset, requester := r, mode := .seek,
           integrator := 0, settleCount := 0, timeoutCount := 0, writePermission := false,
           seekStatus := .outstanding, seekErrors := errorsAfterRequest r v }

/-- A head switch (R76): the integrator is kept; SETTLE and FOLLOW go to SETTLE, SEEK stays SEEK. -/
def Svc.headSwitch (r : Requester) (head : Nat) (v : Svc) : Svc :=
  { v with targetHead := head, requester := r, mode := if v.mode = .seek then .seek else .settle,
           settleCount := if v.mode = .seek then v.settleCount else 0, writePermission := false,
           timeoutCount := 0, seekStatus := .outstanding, seekErrors := errorsAfterRequest r v }

/-- A target request from TRANSFER or CALIBRATION (R75, R76). -/
def servoTarget (r : Requester) (cylinder head : Nat) (offset : Int) (s : State) : Act :=
  match s.svc.mode with
  | .parked | .loading | .retract | .lost => { state := s, signals := seekErrorTo r }
  | .seek | .settle | .follow =>
      { state := s.modSvc fun v =>
          if isHeadSwitch cylinder head offset v then v.headSwitch r head else v.newSeek r cylinder head offset,
        signals := replacedSeek r s.svc }

/-! ### The command laws -/

/-- Interpolate the profile in the first span that holds d (R80). -/
def profileSpan (d : Int) : List (Nat × Nat) → Int
  | (d0, v0) :: (d1, v1) :: t =>
      if d ≤ (d1 : Int) then
        (v0 : Int) + Int.tdiv (((v1 : Int) - v0) * (d - d0)) ((d1 : Int) - d0)
      else profileSpan d ((d1, v1) :: t)
  | [(_, v)] => v
  | [] => 0

/-- The profile speed S(d) (R80). -/
def profileSpeed (f : Profile) (d : Int) : Int := if d = 0 then 0 else profileSpan d f.points

/-- The target position (R65). -/
def targetPosition (v : Svc) : Int := 256 * (v.targetCylinder : Int) + v.retryOffset

/-- The bias entry of the band of the position record (R90). -/
def biasOf (v : Svc) : Int := v.bias.getD v.pos.band 0

/-- The demanded velocity for an error E: S(|E|) with the sign of E (R81). -/
def demandedVelocity (f : Profile) (e : Int) : Int :=
  if e < 0 then -profileSpeed f (-e) else profileSpeed f e

/-- A computed command reaches the port clamped, with the saturation flag (R67). -/
def Svc.setCommand (i : Int) (v : Svc) : Svc :=
  { v with command := clamp (-127) 127 i, saturated := decide (clamp (-127) 127 i ≠ i) }

/-- The velocity law (R81). -/
def Svc.velocityLaw (e : Int) (v : Svc) : Svc :=
  v.setCommand (Int.tdiv ((v.profile.kv : Int) * (demandedVelocity v.profile e - v.pos.v)) 16 + biasOf v)

/-- The integrator takes the error of a sample (R82). -/
def Svc.integrate (e : Int) (v : Svc) : Svc := { v with integrator := clamp (-8192) 8192 (v.integrator + e) }

/-- The terms Ip and Ii (R83). -/
def Svc.terms (e : Int) (v : Svc) : Svc :=
  { v with termP := Int.tdiv ((v.profile.kp : Int) * e - (v.profile.kd : Int) * v.pos.v) 16, termI := Int.tdiv v.integrator 64 }

/-- The position law, after the integrator has taken E (R82, R83). -/
def Svc.positionLaw (e : Int) (v : Svc) : Svc :=
  let w := (v.integrate e).terms e
  w.setCommand (biasOf w + w.termP + w.termI)

/-! ### One valid sample (R84 to R86) -/

/-- The transition test of a mode, on E and V (R84). -/
def modeAfterTest (m : ServoMode) (e v : Int) : ServoMode :=
  match m with
  | .seek => if e.natAbs ≤ 64 ∧ v.natAbs ≤ 32 then .settle else .seek
  | .settle => if 256 < e.natAbs then .seek else .settle
  | .follow => if 256 < e.natAbs then .seek else if 24 < e.natAbs then .settle else .follow
  | m => m

/-- The transition of a valid sample with error E (R84): the latest error, the mode, and what a change of mode resets. -/
def Svc.transition (e : Int) (v : Svc) : Svc :=
  let m := modeAfterTest v.mode e v.pos.v
  { v with latestError := e, mode := m,
           integrator := if m = .seek ∧ v.mode ≠ .seek then 0 else v.integrator,
           settleCount := if m = v.mode then v.settleCount else 0,
           seekStatus := if v.mode = .follow ∧ m ≠ .follow then .outstanding else v.seekStatus,
           timeoutCount := if v.mode = .follow ∧ m ≠ .follow then 0 else v.timeoutCount }

/-- The command of a valid sample, by the law of the mode after its transition test (R84). -/
def Svc.law (e : Int) (v : Svc) : Svc := if v.mode = .seek then v.velocityLaw e else v.positionLaw e

/-- Settle counting in SETTLE, after the command (R85): the count reaching 4 enters FOLLOW. -/
def Svc.settle (e : Int) (v : Svc) : Svc :=
  if v.mode = .settle then
    if e.natAbs ≤ 16 ∧ v.saturated = false then
      if 4 ≤ v.settleCount + 1 then { v with mode := .follow, settleCount := 0 }
      else { v with settleCount := v.settleCount + 1 }
    else { v with settleCount := 0 }
  else v

/-- Write permission at a valid sample (R86). -/
def Svc.permit (e : Int) (v : Svc) : Svc := { v with writePermission := v.mode == .follow && decide (e.natAbs ≤ 24) }

end Sys2Proof.Machine
end

