-- ==== Sys2Proof/Machine/Calibration.lean ====
section
/-! DEFINITION. The calibration pass (R95 to R100) and one servo sample handled whole (R51, R64): intake, position record, mode logic,
gathering, seek timeout and the LOST condition. -/

namespace Sys2Proof.Machine

/-- Change the calibration record. -/
def modCal (f : Calibration → Calibration) (s : State) : State := s.modSvc fun v => { v with cal := f v.cal }

/-! ### The pass -/

/-- Seek a band: its middle cylinder, head 0, retry offset 0 (R96). -/
def passSeek (b : Nat) (s : State) : Act :=
  servoTarget .calibration (150 * b + 75) 0 0
    (modCal (fun c => { c with stage := .seeking, band := b, gathered := 0, bandSum := 0, falls := 0 }) s)

/-- How a completed pass ended (R99). -/
def passResult (c : Calibration) : PassResult :=
  if [0, 1, 2, 3, 4, 5, 6, 7].all (fun b => c.bandsDone.contains b) then .success else .partialPass

/-- A pass completes (R99). -/
def passComplete (s : State) : Act :=
  let r := passResult s.svc.cal
  let s1 := modCal (fun c =>
    { c with lastResult := r, temperature := some s.smn.temp.latest, due := false, stage := .idle }) s
  let s2 := s1.modSvc fun v => { v with requester := .nobody }
  send .passEnded (if r = .partialPass then latch .calFail s2 else s2)

/-- The pass moves on after a completed or failed band (R98). -/
def passAdvance (s : State) : Act :=
  if s.svc.cal.band < 7 then passSeek (s.svc.cal.band + 1) s else passComplete s

/-- The 64th gathered sample of a band: its entry takes the average, clamped, and the integrator is cleared (R98). -/
def bandComplete (s : State) : Act :=
  passAdvance (s.modSvc fun v =>
    { v with bias := v.bias.modify v.cal.band (fun x => clamp (-32) 31 (x + roundDiv v.cal.bandSum 64)),
             integrator := 0,
             cal := { v.cal with bandsDone := insertNat v.cal.band v.cal.bandsDone } })

/-- The request for a pass, taken with the stage IDLE (R95); `order` is the tag of the CALIBRATE order whose pass it is. -/
def passRequest (order : Option Nat) (s : State) : Act :=
  if s.svc.cal.stage = .idle then passSeek 0 (modCal (fun c => { c with bandsDone := [], passOrder := order }) s) else done s

/-- The CSQ ends a pass before its completion (R100). -/
def passInterrupt (s : State) : State :=
  if s.svc.cal.stage = .idle then s
  else latch .calFail (modCal (fun c => { c with lastResult := .partialPass, bandSum := 0, stage := .idle }) s)

/-- The pass takes an on-track report (R96). -/
def passOnTrack (s : State) : Act :=
  if s.svc.cal.stage = .seeking then done (modCal (fun c => { c with stage := .gathering }) s) else done s

/-- The pass takes a SEEK_ERROR report, by the servo mode at that moment (R96). The report of a timeout at the eighth missed sample finds the
mode LOST, and the pass is HALTED (the model's choice, assumption 31). -/
def passSeekError (s : State) : Act :=
  if s.svc.cal.stage = .seeking then
    match s.svc.mode with
    | .seek | .settle | .follow => passAdvance s
    | .retract | .lost | .parked | .loading => done (modCal (fun c => { c with stage := .halted }) s)
  else done s

/-- Gathering at a valid sample that found the mode FOLLOW (R97): a sample that stays in FOLLOW is summed, a fall discards the
gathering and what it summed, and a second fall fails the band. -/
def passGather (s : State) : Act :=
  if s.svc.cal.stage = .gathering then
    if s.svc.mode = .follow then
      let s1 := modCal (fun c => { c with bandSum := c.bandSum + (s.svc.termP + s.svc.termI), gathered := c.gathered + 1 }) s
      if 64 ≤ s1.svc.cal.gathered then bandComplete s1 else done s1
    else
      let s1 := modCal (fun c => { c with bandSum := 0, gathered := 0 }) s
      if s.svc.cal.falls = 0 then done (modCal (fun c => { c with falls := 1, stage := .seeking }) s1) else passAdvance s1
  else done s

/-! ### One sample -/

/-- What entering FOLLOW tells the requester (R70, R77, R85): the on-track report, or for a head load that FOLLOW is reached. A seek that is TIMED_OUT
becomes ON_TRACK without a report (R87), with no requester too (the model's choice, assumption 45). -/
def followEntered (s : State) : Act :=
  if s.svc.seekStatus = .outstanding then
    if s.svc.requester = .load then
      send .followReached (s.modSvc fun v => { v with seekStatus := .onTrack, requester := .nobody })
    else
      { state := s.modSvc fun v => { v with seekStatus := .onTrack },
        signals := if s.svc.requester = .nobody then [] else [.onTrack s.svc.requester] }
  else done (s.modSvc fun v => { v with seekStatus := if v.seekStatus = .timedOut then .onTrack else v.seekStatus })

/-- The seek timeout (R87): counted, and told by requester; a head load fails. The status TIMED_OUT is set for requester LOAD too, which R87
does not say (assumption 31). -/
def timeoutAct (s : State) : Act :=
  let s1 := s.modSvc fun v =>
    { v with timeoutCount := 400, seekErrors := satAdd 65535 v.seekErrors 1, seekStatus := .timedOut }
  if s.svc.requester = .load then done (loadFailure s1) else { state := s1, signals := seekErrorTo s.svc.requester }

/-- A sample in SEEK or SETTLE adds one to the timeout count while the seek is OUTSTANDING (R87). -/
def countTimeout (s : State) : Act :=
  if s.svc.seekStatus = .outstanding ∧ (s.svc.mode = .seek ∨ s.svc.mode = .settle) then
    if 400 ≤ s.svc.timeoutCount + 1 then timeoutAct s
    else done (s.modSvc fun v => { v with timeoutCount := v.timeoutCount + 1 })
  else done s

/-- The mode logic of a valid sample, the position record being updated (R84 to R87, R97). -/
def validLogic (s : State) : Act :=
  let e := targetPosition s.svc - s.svc.pos.p
  let s1 := s.modSvc fun v => (((v.transition e).law e).settle e).permit e
  if s.svc.mode = .follow then passGather s1
  else if s1.svc.mode = .follow then followEntered s1
  else countTimeout s1

/-- The eighth consecutive missed sample raises LOST (R61), also when it is the 400th sample of a load target's seek, whose timeout has
set the mode RETRACT before (assumption 31). -/
def raiseLost (s : State) : Act := if 8 ≤ s.svc.pos.missed then servoLost s else done s

/-- The mode logic of a missed sample in SEEK, SETTLE or FOLLOW (R58, R61, R87): the timeout is counted first, and LOST comes after it; a
SEEK_ERROR of that timeout reaches its requester with the mode LOST (assumption 31). -/
def missedLogic (s : State) : Act :=
  (countTimeout (s.modSvc fun v => { v with settleCount := 0, writePermission := false })).andThen raiseLost

/-- The 200th sample in LOADING passes without a valid one (R69). -/
def loadLimitAct (s : State) : State := loadFailure (s.modSvc fun v => { v with loadCount := 200 })

/-- A sample in LOADING (R60, R69). -/
def loadingSample (r : ServoRecord) (s : State) : Act :=
  if recordGood r then
    validLogic (s.modSvc fun v =>
      { v with pos := v.pos.start r, loadCount := v.loadCount + 1, mode := .seek, seekStatus := .outstanding,
               settleCount := 0, timeoutCount := 0, integrator := 0 })
  else if 200 ≤ s.svc.loadCount + 1 then
    done (loadLimitAct (s.modSvc fun v => { v with pos := { v.pos with latestWedge := some r.wedge } }))
  else
    done (s.modSvc fun v => { v with pos := { v.pos with latestWedge := some r.wedge }, loadCount := v.loadCount + 1 })

/-- A sample in SEEK, SETTLE or FOLLOW (R57, R58). -/
def trackingSample (r : ServoRecord) (s : State) : Act :=
  if sampleValid s.svc.pos r then validLogic (s.modSvc fun v => { v with pos := v.pos.measure r })
  else missedLogic (s.modSvc fun v => { v with pos := v.pos.predict r.wedge })

/-- A servo sample record arrives (R51, R52). -/
def servoSampleAct (r : ServoRecord) (s : State) : Act :=
  match s.svc.mode with
  | .parked | .retract | .lost => done s
  | .loading => if s.svc.pos.latestWedge = some r.wedge then done s else loadingSample r s
  | .seek | .settle | .follow => if s.svc.pos.latestWedge = some r.wedge then done s else trackingSample r s

end Sys2Proof.Machine
end

