-- ==== Sys2Proof/Machine/Geometry.lean ====
section
/-! DEFINITION. Block geometry, the defect table, the label sectors (R104 to R118, R187) and the table images (section 11.4). -/

namespace Sys2Proof.Machine

/-! ### The zone table (R104, R105) -/

/-- The first cylinder after a zone: that of the next zone, or the spare-start cylinder. -/
def zoneEnd (rest : List Zone) (spareStart : Nat) : Nat :=
  match rest with
  | [] => spareStart
  | z :: _ => z.first

/-- The blocks of one zone. -/
def zoneBlocks (z : Zone) (rest : List Zone) (spareStart : Nat) : Nat :=
  (zoneEnd rest spareStart - z.first) * 2 * z.spt

/-- The capacity of a run of zones (R105). -/
def zonesCapacity (spareStart : Nat) : List Zone → Nat
  | [] => 0
  | z :: t => zoneBlocks z t spareStart + zonesCapacity spareStart t

/-- The capacity of a zone table (R105). -/
def capacityOf (t : ZoneTable) : Nat := zonesCapacity t.spareStart t.zones

/-- The spare count of a zone table (R105). -/
def spareCountOf (t : ZoneTable) : Nat := min 255 ((1200 - t.spareStart) * 2 * t.spareSpt)

/-- The zones ascend, each with 17 to 40 sectors per track, and end below the spare-start cylinder (R104). -/
def zonesOk (spareStart : Nat) : List Zone → Bool
  | [] => true
  | z :: t => decide (17 ≤ z.spt) && decide (z.spt ≤ 40) && decide (z.first < zoneEnd t spareStart) && zonesOk spareStart t

/-- A zone table is well formed (R104). -/
def zoneTableOk (t : ZoneTable) : Bool :=
  decide (t.formatId < 65536) && decide (1 ≤ t.zones.length) && decide (t.zones.length ≤ 4) &&
    (match t.zones with | [] => false | z :: _ => z.first == 1) && zonesOk t.spareStart t.zones &&
    decide (t.spareStart ≤ 1199) && decide (17 ≤ t.spareSpt) && decide (t.spareSpt ≤ 40)

/-! ### Block mapping (R107, R108) -/

/-- A place on the medium. -/
structure Place where
  cylinder : Nat
  head : Nat
  sector : Nat
  deriving DecidableEq, Repr

/-- Map a block by the zones (R107). -/
def mapZones (spareStart : Nat) : List Zone → Nat → Place
  | [], _ => { cylinder := 0, head := 0, sector := 0 }
  | z :: t, n =>
      if n < zoneBlocks z t spareStart then
        { cylinder := z.first + n / z.spt / 2, head := n / z.spt % 2, sector := n % z.spt }
      else mapZones spareStart t (n - zoneBlocks z t spareStart)

/-- Map a spare index (R108). -/
def mapSpare (t : ZoneTable) (k : Nat) : Place :=
  { cylinder := t.spareStart + k / (2 * t.spareSpt), head := k / t.spareSpt % 2, sector := k % t.spareSpt }

/-- The entry of a block in the defect table (R109). -/
def lookupDefect (n : Nat) (l : List DefectEntry) : Option DefectEntry := l.find? fun e => e.block == n

/-- Where a block lies (R107, R108). -/
def mapBlock (t : Txe) (n : Nat) : Place :=
  match lookupDefect n t.defects with
  | some e => mapSpare t.zones e.spare
  | none => mapZones t.zones.spareStart t.zones.zones n

/-- Where what a sector operation transfers lies; a label sector lies on cylinder 0, head 0 (R113, R127). -/
def mapTarget (t : Txe) : OpTarget → Place
  | .block n => mapBlock t n
  | .label k => { cylinder := 0, head := 0, sector := k }
  | .seekOnly => { cylinder := 0, head := 0, sector := 0 }

/-! ### The defect table (R109 to R112) -/

/-- The blocks ascend strictly. -/
def ascending : List DefectEntry → Bool
  | [] => true
  | e :: t => (match t with | [] => true | f :: _ => decide (e.block < f.block)) && ascending t

/-- No spare index appears twice. -/
def sparesDistinct : List DefectEntry → Bool
  | [] => true
  | e :: t => !(t.any fun f => f.spare == e.spare) && sparesDistinct t

/-- A defect list meets R109 against a capacity and a spare count. -/
def defectsOk (capacity spareCount : Nat) (l : List DefectEntry) : Bool :=
  decide (l.length ≤ 128) && ascending l && sparesDistinct l &&
    l.all fun e => decide (e.block < capacity) && decide (e.spare < spareCount)

/-- The lowest spare index that no entry uses, below a bound (R111, R112). -/
def freeSpare (spareCount : Nat) (l : List DefectEntry) : Option Nat :=
  (List.range spareCount).find? fun k => !(l.any fun e => e.spare == k)

/-- Insert an entry at the place that keeps the blocks ascending (R112). -/
def insertDefect (d : DefectEntry) : List DefectEntry → List DefectEntry
  | [] => [d]
  | e :: t => if d.block < e.block then d :: e :: t else e :: insertDefect d t

/-! ### Forgetting and changing the label state (R102, R114) -/

/-- Set the label status; every change of it clears label modified (R114). -/
def setLabel (st : LabelStatus) (r : Option CartridgeRecord) (l : List DefectEntry) (s : State) : State :=
  s.modTxe fun t => { t with labelStatus := st, record := r, defects := l, labelModified := false }

/-- Forget the cartridge (R102, R106). -/
def forgetCartridge (s : State) : State := setLabel .unread none [] s

/-! ### Label sectors (R113, R118, R187) -/

/-- The fixed signature (section 11.4). -/
def signature : List Byte := [0x71, 0x40, 0xC8, 0x2E]

/-- An entry slot: block (3) and spare index (1). -/
def entryBytes (e : DefectEntry) : List Byte := be3 e.block ++ [byteOf e.spare]

/-- Fill a run of bytes to a length with zeros. -/
def padTo (n : Nat) (l : List Byte) : List Byte := l.take n ++ List.replicate (n - l.length) 0

/-- Entry slots filled to `n` bytes. -/
def slots (n : Nat) (l : List DefectEntry) : List Byte := padTo n (l.flatMap entryBytes)

/-- Bytes 0 to 28 of label sector 0: what the checksum covers of it. -/
def recordBytes (r : CartridgeRecord) : List Byte :=
  r.signature ++ be2 r.formatId ++ be4 r.serial ++ r.name ++ be2 r.sequence ++ [byteOf r.defectCount]

/-- The checksum over the record fields and both image sectors (R187). -/
def labelChecksum (fields sector1 sector2 : List Byte) : Word16 := crc16 (fields ++ sector1 ++ sector2)

/-- The record fields that bytes 0 to 30 of sector 0 spell. -/
def recordOf (sector : List Byte) : CartridgeRecord :=
  { signature := slice 0 4 sector, formatId := fieldAt 4 2 sector, serial := fieldAt 6 4 sector,
    name := slice 10 16 sector, sequence := fieldAt 26 2 sector, defectCount := byteAt 28 sector,
    checksum := BitVec.ofNat 16 (fieldAt 29 2 sector) }

/-- The entries in a run of slots. -/
def entriesOf : Nat → List Byte → List DefectEntry
  | 0, _ => []
  | n + 1, l => { block := fieldAt 0 3 l, spare := byteAt 3 l } :: entriesOf n (l.drop 4)

/-- Sixteen spaces. -/
def spaces : List Byte := List.replicate 16 0x20

/-- The label image a label write forms (R118): the record without and then with its checksum, and the two image sectors. -/
def labelRecord (t : Txe) : CartridgeRecord :=
  let r : CartridgeRecord :=
    { signature := signature, formatId := t.zones.formatId,
      serial := (t.record.map fun r => r.serial).getD 0, name := (t.record.map fun r => r.name).getD spaces,
      sequence := match t.record with | some r => (r.sequence + 1) % 65536 | none => 1,
      defectCount := t.defects.length, checksum := 0 }
  { r with checksum := labelChecksum (recordBytes r) (slots 512 (t.defects.take 64)) (slots 512 (t.defects.drop 64)) }

/-- The three sectors of a label image (R187). -/
def labelSectors (t : Txe) : List (List Byte) :=
  [padTo 512 (recordBytes (labelRecord t) ++ be2 (labelRecord t).checksum.toNat),
   slots 512 (t.defects.take 64), slots 512 (t.defects.drop 64)]

/-- Steps 2 and 3 of R116, on sector 0: BLANK, BAD, or the label goes on to sectors 1 and 2 (none). -/
def signatureStatus (sector : List Byte) : Option LabelStatus :=
  if slice 0 4 sector = [0, 0, 0, 0] then some .blank
  else if slice 0 4 sector = signature then none else some .bad

/-- Steps 5 to 8 of R116: status, record and defect list decided by the three sectors. -/
def decideLabel (t : Txe) (s0 s1 s2 : List Byte) : LabelStatus × Option CartridgeRecord × List DefectEntry :=
  let r := recordOf s0
  let l := entriesOf (min r.defectCount 64) s1 ++ entriesOf (r.defectCount - 64) s2
  if labelChecksum (slice 0 29 s0) s1 s2 ≠ r.checksum then (.bad, none, [])
  else if r.formatId ≠ t.zones.formatId then (.foreign, some r, [])
  else if 128 < r.defectCount ∨ defectsOk t.capacity t.spareCount l = false then (.bad, none, [])
  else (.valid, some r, l)

/-! ### Table images (section 11.4) -/

/-- A signed byte. -/
def signedByte (b : Byte) : Int := b.toInt

/-- A byte of a signed number, two's complement. -/
def byteOfInt (i : Int) : Byte := BitVec.ofInt 8 i

/-- `n` points of a profile image from an offset. -/
def pointsOf (l : List Byte) (o : Nat) : Nat → List (Nat × Nat)
  | 0 => []
  | n + 1 => (fieldAt o 4 l, fieldAt (o + 4) 2 l) :: pointsOf l (o + 6) n

/-- The profile table a 99-byte image spells. -/
def profileOf (l : List Byte) : Profile :=
  { kv := byteAt 0 l, kp := byteAt 1 l, kd := byteAt 2 l, points := pointsOf l 3 16 }

/-- The distances ascend strictly, and speeds and distances lie in range (R78). -/
def pointsOk : List (Nat × Nat) → Bool
  | [] => true
  | (d, v) :: t =>
      decide (d ≤ 307200) && decide (v ≤ 4095) && (match t with | [] => true | (d1, _) :: _ => decide (d < d1)) && pointsOk t

/-- A profile table meets R78. -/
def profileOk (f : Profile) : Bool :=
  decide (1 ≤ f.kv) && decide (f.kv ≤ 63) && decide (1 ≤ f.kp) && decide (f.kp ≤ 63) && decide (f.kd ≤ 63) &&
    f.points.length == 16 && f.points.head? == some (0, 0) && pointsOk f.points

/-- The PROFILE image. -/
def profileBytes (f : Profile) : List Byte :=
  [byteOf f.kv, byteOf f.kp, byteOf f.kd] ++ f.points.flatMap fun p => be4 p.1 ++ be2 p.2

/-- The eight entries a BIAS image spells. -/
def biasOfImage (l : List Byte) : List Int := (l.take 8).map signedByte

/-- Bias entries in range (R91). -/
def biasOk (l : List Int) : Bool := l.length == 8 && l.all fun x => decide (-32 ≤ x) && decide (x ≤ 31)

/-- The BIAS read image (R91, R187); calibration due is 1 for set and 0 for clear (the model's choice, assumption 47). -/
def biasBytes (v : Svc) : List Byte :=
  v.bias.map byteOfInt ++
    [byteOf (flagBit v.cal.due 0), byteOf (flagBit v.cal.temperature.isSome 0), byteOf (v.cal.temperature.getD 0),
     byteOf ((v.cal.bandsDone.map fun b => 2 ^ b).sum), byteOf v.cal.lastResult.code]

/-- `n` zone slots of an image from an offset. -/
def zoneSlots (l : List Byte) (o : Nat) : Nat → List Zone
  | 0 => []
  | n + 1 => { first := fieldAt o 2 l, spt := byteAt (o + 2) l } :: zoneSlots l (o + 3) n

/-- The zone table an 18-byte image spells: the slots after the zone count are not examined (R187). A count above 4 gives that many
slots to the length test of R104, which refuses it. -/
def zoneTableOf (l : List Byte) : ZoneTable :=
  { formatId := fieldAt 0 2 l, zones := zoneSlots l 3 (byteAt 2 l), spareStart := fieldAt 15 2 l, spareSpt := byteAt 17 l }

/-- The 18 bytes of a zone table; unused slots are zero (R187). -/
def zoneTableBytes (t : ZoneTable) : List Byte :=
  be2 t.formatId ++ [byteOf t.zones.length] ++ padTo 12 (t.zones.flatMap fun z => be2 z.first ++ [byteOf z.spt]) ++
    be2 t.spareStart ++ [byteOf t.spareSpt]

/-- The ZONE read image (R121). -/
def zoneBytes (t : Txe) : List Byte := zoneTableBytes t.zones ++ be4 t.capacity ++ [byteOf t.spareCount]

/-- An action code of section 11.2. -/
def monActionOf : Nat → Option MonAction
  | 0 => some .noAction
  | 1 => some .note
  | 2 => some .holdWrites
  | 3 => some .park
  | 4 => some .retract
  | _ => none

/-- An armed set code of section 11.2. -/
def armedSetOf : Nat → Option ArmedSet
  | 0 => some .always
  | 1 => some .spinning
  | 2 => some .ready
  | _ => none

/-- The limits of one channel that seven bytes spell, if they meet R169. -/
def limitsOf (l : List Byte) : Option Limits :=
  match monActionOf (byteAt 1 l), monActionOf (byteAt 4 l), armedSetOf (byteAt 6 l) with
  | some la, some ha, some ar =>
      if byteAt 0 l < byteAt 3 l ∧ 1 ≤ byteAt 2 l ∧ byteAt 2 l ≤ 4 ∧ 1 ≤ byteAt 5 l ∧ byteAt 5 l ≤ 4 then
        some { low := byteAt 0 l, lowAction := la, lowPersistence := byteAt 2 l, high := byteAt 3 l,
               highAction := ha, highPersistence := byteAt 5 l, armed := ar }
      else none
  | _, _, _ => none

/-- The limits of `n` channels of a MONITOR image, if every one passes (R169). -/
def monitorOf (l : List Byte) : Nat → Option (List Limits)
  | 0 => some []
  | n + 1 =>
      match limitsOf l, monitorOf (l.drop 7) n with
      | some x, some t => some (x :: t)
      | _, _ => none

/-- The seven limit bytes of a channel. -/
def limitsBytes (l : Limits) : List Byte :=
  [byteOf l.low, byteOf (monActionCode l.lowAction), byteOf l.lowPersistence, byteOf l.high,
   byteOf (monActionCode l.highAction), byteOf l.highPersistence, byteOf (armedSetCode l.armed)]

/-- The ten bytes of a channel in the MONITOR read image. -/
def channelBytes (r : ChannelRecord) : List Byte :=
  limitsBytes r.limits ++
    [byteOf r.latest, byteOf r.active.code, byteOf (flagBit r.lowFault 0 + flagBit r.highFault 1)]

/-- The MONITOR read image (R169); the round-complete flag and write hold are 1 for set and 0 for clear (the model's choice, assumption 47). -/
def monitorBytes (s : State) : List Byte :=
  (channels.flatMap fun c => channelBytes (channel s c)) ++
    [byteOf (flagBit s.smn.roundComplete 0), byteOf (flagBit (writeHold s) 0)]

/-- One frame of a DEFECT image: its count and 64 slots. -/
def defectFrame (l : List DefectEntry) : List Byte := be2 l.length ++ slots 256 l

/-- The frames of the DEFECT read image (R187). -/
def defectFrames (l : List DefectEntry) : List (List Byte) :=
  if l.length ≤ 64 then [defectFrame l] else [defectFrame (l.take 64), defectFrame (l.drop 64)]

/-- The entries of one frame of a DEFECT load image; none when its count is above 64 (R187). -/
def defectFrameOf (l : List Byte) : Option (List DefectEntry) :=
  if fieldAt 0 2 l ≤ 64 then some (entriesOf (fieldAt 0 2 l) (l.drop 2)) else none

/-- The entries of a DEFECT load image of one or two frames (R110, R187). -/
def defectsOf : List (List Byte) → Option (List DefectEntry)
  | [] => some []
  | f :: t =>
      match defectFrameOf f, defectsOf t with
      | some a, some b => some (a ++ b)
      | _, _ => none

/-- The LABEL read image (R121, R187). -/
def labelBytes (t : Txe) : List Byte :=
  [byteOf t.labelStatus.code, byteOf (flagBit t.labelModified 0 + flagBit t.record.isSome 1)] ++
    match t.record with
    | some r => be2 r.formatId ++ be4 r.serial ++ padTo 16 r.name ++ be2 r.sequence ++ [byteOf r.defectCount]
    | none => List.replicate 25 0

/-- The length of a load image of a table id (section 11.4); each frame's for DEFECT. -/
def imageLength (id : Nat) : Option Nat :=
  match id with
  | 1 => some 99
  | 2 => some 8
  | 3 => some 18
  | 4 => some 35
  | 5 => some 258
  | 6 => some 20
  | _ => none

end Sys2Proof.Machine
end

