-- ==== Sys2Proof/Machine/Transfer.lean ====
section
/-! DEFINITION. The Transfer Engine: the job slot (R123 to R126), sector operations (R127 to R133), the retry ladder (R134), the owners'
decisions (R135), and the work of each job (R116, R118, R144, R148, R151 to R153). -/

namespace Sys2Proof.Machine

/-! ### The slot -/

/-- Change the job in the slot. -/
def modJob (f : Job → Job) (s : State) : State := s.modTxe fun t => { t with job := t.job.map f }

/-- Set the sector operation. -/
def setOp (o : SectorOp) (s : State) : State := s.modTxe fun t => { t with op := some o }

/-- The sector operation is over: the gate is closed, the hold wait stopped and the buffer port released (R130, R131, R133). -/
def clearOp (s : State) : State :=
  mediaRelease (s.modTxe fun t => { t with op := none, gate := false, holdTimer := none })

/-- The job is over (R126, R143): the slot is empty and every segment it attached returns to NONE. -/
def closeJob (s : State) : State :=
  releaseAll ((clearOp s).modTxe fun t =>
    { t with job := none, yieldPending := false, endPending := .no, jobRecovered := false })

/-- The work of the job in the slot. -/
def jobWork (s : State) : Option Work :=
  match s.txe.job with
  | some j => some j.work
  | none => none

/-- The kind and parameters of the executing order. -/
def orderKind (s : State) : Option OrderKind :=
  match s.lif.executing with
  | some e => some e.order.kind
  | none => none

/-- A yielding job: a background FLUSH or a READ_AHEAD (R125). -/
def Job.yields (j : Job) : Bool := j.kind == .readAhead || (j.kind == .flush && j.role == .background)

/-- The slot holds a yielding job. -/
def slotYields (s : State) : Bool :=
  match s.txe.job with
  | some j => j.yields
  | none => false

/-- The slot holds an order's job. -/
def orderInSlot (s : State) : Bool :=
  match s.txe.job with
  | some j => j.kind == .order
  | none => false

/-- The job is at a sector boundary: no field is in flight (R125). -/
def atBoundary (s : State) : Bool :=
  match s.txe.op with
  | some o => o.phase != .transferring
  | none => true

/-- The outcome of a job without failure: RECOVERED when a sector of it needed a retry (R134). -/
def goodOutcome (s : State) : Outcome := if s.txe.jobRecovered then .recovered else .done

/-- The executing order's job ends with an outcome: its report joins the queue, and the slot is filled (R124, R176). -/
def endOrderJob (o : Outcome) (d : Detail) (extra : List Signal) (s : State) : Act :=
  let a := endOrder o d (blocksDone s) (closeJob s)
  { state := a.state, signals := .slotFree :: a.signals ++ extra ++ [.slotIdle] }

/-- The executing order's job ends with the detail its kind carries. -/
def endOrderJobPlain (o : Outcome) (s : State) : Act :=
  endOrderJob o (match s.lif.executing with | some e => e.order.kind.detail | none => .noDetail) [] s

/-- The executing order's job ends as its owner's rule answers it, with the detail that rule names (R178). -/
def endOrderJobOwned (o : Outcome) (s : State) : Act :=
  endOrderJob o (match s.lif.executing with | some e => e.order.kind.ownDetail | none => .noDetail) [] s

/-- A background job ends, by yielding or otherwise (R125, R135); a flush that leaves a dirty block behind starts the flush-delay timer (R154). -/
def endBackground (s : State) : Act :=
  let flush := (s.txe.job.map fun j => j.kind == .flush).getD false
  let s1 := closeJob s
  { state := if flush ∧ dirtyCount s1 ≠ 0 then startFlushTimer s1 else s1, signals := [.slotFree, .slotIdle] }

/-- At a sector boundary a job with an end or a yield pending ends; otherwise it goes on (R125, R126). An order that going on would bring to its own end
has that end, whatever end is pending (R181, assumption 21). -/
def boundary (goOn : State → Act) (s : State) : Act :=
  if atBoundary s then
    if s.txe.endPending ≠ .no ∧ orderInSlot s then
      if (goOn s).state.txe.job.isNone then goOn s else endOrderJobPlain .aborted s
    else if s.txe.yieldPending ∧ slotYields s then endBackground s
    else goOn s
  else goOn s

/-! ### Positioning (R127, R134) -/

/-- The retry offset that the ladder calls for (R134). -/
def ladderOffset (retries : Nat) : Int := if retries ≤ 3 then 0 else if retries % 2 = 0 then 32 else -32

/-- The SVC already holds the place and offset, for the TXE, and the seek stands (R127). -/
def targetHeld (o : SectorOp) (v : Svc) : Bool :=
  v.requester == .transfer && v.targetCylinder == o.cylinder && v.targetHead == o.head &&
    v.retryOffset == ladderOffset o.retries && (v.seekStatus == .outstanding || v.seekStatus == .onTrack)

/-- Send the target request of a sector operation; the phase is POSITIONING. -/
def seekOp (o : SectorOp) (s : State) : Act :=
  servoTarget .transfer o.cylinder o.head (ladderOffset o.retries) (setOp { o with phase := .positioning } s)

/-- Compare a sector operation's place with the target held and position the heads (R127). -/
def positionOp (o : SectorOp) (s : State) : Act :=
  if targetHeld o s.svc then
    done (setOp { o with phase := if s.svc.mode = .follow then .looking else .positioning } s)
  else seekOp o s

/-- Create a sector operation (R127). -/
def beginOp (target : OpTarget) (dir : Direction) (p : Place) (s : State) : Act :=
  positionOp { target := target, dir := dir, cylinder := p.cylinder, head := p.head, sector := p.sector,
               phase := .positioning, retries := 0, seekFailures := 0 } s

/-- Create the sector operation of a block or label sector where the mapping of the moment puts it. -/
def beginMapped (target : OpTarget) (dir : Direction) (s : State) : Act := beginOp target dir (mapTarget s.txe target) s

/-! ### Work of the jobs -/

/-- The first block and count of the executing READ or WRITE. -/
def transferRange (s : State) : Nat × Nat :=
  match s.lif.executing with
  | some e =>
      match e.order.kind with
      | .read first count => (first, count)
      | .write first count => (first, count)
      | _ => (0, 0)
  | none => (0, 0)

/-- Put the label image formed from the state in memory into the label store, and set out to write sectors 1, 2 and 0 (R118). -/
def beginLabelWrite (s : State) : Act :=
  beginMapped (.label 1) .write
    (modJob (fun j => { j with work := .label [1, 2, 0] false }) (s.modTxe fun t => { t with labelStore := labelSectors t }))

/-- The job reports a full flush or its label write over, by its kind and role (R154 to R156). A FLUSH order that lost a block to a parity error and wrote
all the rest ends DONE or RECOVERED (the model's choice, assumption 49). -/
def flushOver (s : State) : Act :=
  match s.txe.job with
  | none => done s
  | some j =>
      if j.kind = .order then endOrderJobPlain (goodOutcome s) s
      else if j.role = .departure then { state := closeJob s, signals := [.flushComplete, .slotFree, .slotIdle] }
      else endBackground s

/-- A FLUSH attachment whose segment has no dirty block left returns to NONE (R152). -/
def releaseFlushed (s : State) : State :=
  s.modSgc fun g => { g with segments := g.segments.map fun x =>
    if x.attachment = .flush ∧ x.dirty = [] then { x with attachment := .free } else x }

/-- The next block of a full flush, in ascending order of segment and block; a departure flush then writes a modified label (R152, R156). -/
def flushWork (s : State) : Act :=
  let s0 := releaseFlushed s
  match lowestDirty s0 with
  | some i =>
      match firstDirty i s0 with
      | some n => beginMapped (.block n) .write (attachFlush i s0)
      | none => done s0
  | none =>
      if (s0.txe.job.map fun j => j.role == .departure && j.kind == .flush).getD false ∧ s0.txe.labelModified then beginLabelWrite s0
      else flushOver s0

/-- The three label sectors are written (R118). -/
def labelWritten (s : State) : Act :=
  flushOver (setLabel .valid (some (recordOf (s.txe.labelStore.getD 0 []))) s.txe.defects s)

/-- The next sector of a label write (R118). -/
def labelWork (todo : List Nat) (s : State) : Act :=
  match todo with
  | k :: _ => beginMapped (.label k) .write s
  | [] => labelWritten s

/-- Begin to flush one segment within an order's job (R151, R153); `waiting` is the sector operation that waits meanwhile (R145). -/
def beginSegmentFlush (i : Nat) (waiting : Option SectorOp) (s : State) : Act :=
  let s1 := modJob (fun j => { j with flushing := some i, suspended := waiting }) (attachFlush i s)
  match firstDirty i s1 with
  | some n => beginMapped (.block n) .write s1
  | none => done s1

/-- The position a READ's job serves next: a block to read again first (R158), then the next block of the order; after a failure only
blocks to read again. -/
def nextPosition (next count : Nat) (again : List Nat) (failure : Option ReadFailure) : Option Nat :=
  match again with
  | q :: _ => some q
  | [] => if failure.isNone ∧ next < count then some next else none

/-- A READ's job has served a position of the order: one to read again leaves those positions, and the next one is passed (R144, R158). -/
def Work.served (q : Nat) : Work → Work
  | .read next medium again failure =>
      if again.contains q then .read next medium (again.erase q) failure
      else .read (if q = next then next + 1 else next) medium again failure
  | w => w

/-- A READ's job serves blocks until one needs the medium (R144). -/
def serveRead : Nat → State → Act
  | 0, s => done s
  | fuel + 1, s =>
      match jobWork s with
      | some (.read next _ again failure) =>
          match nextPosition next (transferRange s).2 again failure with
          | none => done s
          | some q =>
              let n := (transferRange s).1 + q
              match askSegment n .order true s with
              | (s1, .given i) =>
                  if (segmentAt s1 i).valid.contains (n % 16) then serveRead fuel (modJob (fun j => { j with work := j.work.served q }) s1)
                  else beginMapped (.block n) .read s1
              | (s1, .flushFirst i) => beginSegmentFlush i none s1
              | (s1, .wait) => beginMapped (.block n) .read s1
      | _ => done s

/-- What a READ's job does next. -/
def readWork (s : State) : Act :=
  match jobWork s with
  | some (.read _ _ again _) => serveRead ((transferRange s).2 + again.length + 1) s
  | _ => done s

/-- A READ ends once every block it still delivers has been delivered (R146, R147). -/
def finishRead (s : State) : Act :=
  match jobWork s with
  | some (.read _ medium _ failure) =>
      match failure with
      | some f => if f.limit ≤ blocksDone s then endOrderJob f.outcome f.detail [] s else done s
      | none =>
          if (transferRange s).2 ≤ blocksDone s then
            endOrderJob (goodOutcome s) .noDetail (if medium then [.readAhead (transferRange s).1 (transferRange s).2] else []) s
          else done s
  | _ => done s

/-- A WRITE that writes through ends when every block was placed and no segment is left to flush (R151). -/
def finishThrough (s : State) : Act :=
  if (transferRange s).2 ≤ s.lif.expectedIndex then endOrderJob (goodOutcome s) .noDetail [] s else done s

/-- What a WRITE's job does next: flush the segments filled, oldest first (R151). -/
def writeWork (through : Bool) (queue : List Nat) (s : State) : Act :=
  match queue with
  | i :: t => beginSegmentFlush i none (modJob (fun j => { j with work := .write through t }) s)
  | [] => if through then finishThrough s else done s

/-- What a read-ahead finds in one window (R148). -/
inductive Ahead where
  | fill (n : Nat)
  | skip
  | stop
  deriving DecidableEq, Repr

/-- One window of a read-ahead: its first block from an offset on that is not valid (R148). A window with an offset left below the capacity is asked for
and attached even when all those offsets are valid (the model's choice, assumption 39). -/
def aheadWindow (base from_ : Nat) (s : State) : State × Ahead :=
  let offsets := (List.range 16).filter fun o => decide (from_ ≤ o) && decide (base + o < s.txe.capacity)
  if offsets.isEmpty then (s, .skip)
  else
    match askSegment base .readAhead false s with
    | (s1, .given i) =>
        match offsets.find? fun o => !(segmentAt s1 i).valid.contains o with
        | some o => (s1, .fill (base + o))
        | none => (s1, .skip)
    | (s1, _) => (s1, .stop)

/-- Read one block ahead. -/
def aheadFill (n : Nat) (second : Option Nat) (s : State) : Act :=
  beginMapped (.block n) .read (modJob (fun j => { j with work := .readAhead (windowBase n) (n % 16 + 1) second }) s)

/-- What a read-ahead does next (R148). -/
def aheadWork (base from_ : Nat) (second : Option Nat) (s : State) : Act :=
  match aheadWindow base from_ s with
  | (s1, .fill n) => aheadFill n second s1
  | (s1, .stop) => endBackground s1
  | (s1, .skip) =>
      match second with
      | none => endBackground s1
      | some b =>
          match aheadWindow b 0 s1 with
          | (s2, .fill n) => aheadFill n none s2
          | (s2, _) => endBackground s2

/-- The end of a SEEK order's positioning (R139). -/
def seekDone (s : State) : Act := endOrderJobPlain .done s

/-- A SEEK order's job (R139): FOLLOW already held on the target ends it. -/
def seekWork (s : State) : Act :=
  match orderKind s with
  | some (.seek cylinder head) =>
      let a := beginOp .seekOnly .read { cylinder := cylinder, head := head, sector := 0 } s
      if (a.state.txe.op.map fun o => o.phase) = some .looking then a.andThen seekDone else a
  | _ => done s

/-- What the job in the slot does next, when no segment flush within it is under way. -/
def workOn (s : State) : Act :=
  match jobWork s with
  | none => done s
  | some (.read _ _ _ _) => readWork s
  | some (.write through queue) => writeWork through queue s
  | some .flush => flushWork s
  | some (.label todo _) => labelWork todo s
  | some .labelRead => beginMapped (.label 0) .read s
  | some .seek => seekWork s
  | some (.readAhead base from_ second) => aheadWork base from_ second s

/-- The job's work goes on: a block to read again comes first (R158), then the sector operation that waited, then what comes next. -/
def resumeWork (s : State) : Act :=
  match s.txe.job with
  | some { work := .read _ _ (_ :: _) _, .. } => readWork s
  | some { suspended := some o, .. } => positionOp o (modJob (fun j => { j with suspended := none }) s)
  | _ => workOn s

/-- A segment's flush within an order's job is over (R151, R153): the segment is released, and the operation or the work that waited goes on. -/
def segmentFlushOver (i : Nat) (s : State) : Act := resumeWork (modJob (fun j => { j with flushing := none }) (attach .free i s))

/-- The job goes on to its next sector, or ends when it has none left (R135). -/
def nextSector (s : State) : Act :=
  match s.txe.job with
  | none => done s
  | some j =>
      match j.flushing with
      | none => resumeWork s
      | some i =>
          match firstDirty i s with
          | some n => beginMapped (.block n) .write s
          | none => segmentFlushOver i s

/-! ### The label read (R115, R116) -/

/-- The label read job ends with a status (R116). -/
def labelDecided (st : LabelStatus) (r : Option CartridgeRecord) (l : List DefectEntry) (s : State) : Act :=
  send .labelReadEnded (closeJob (setLabel st r l s))

/-- A label sector has been read (R116). -/
def labelSectorRead (k : Nat) (s : State) : Act :=
  match k with
  | 0 =>
      match signatureStatus (s.txe.labelStore.getD 0 []) with
      | some st => labelDecided st none [] s
      | none => beginMapped (.label 1) .read s
  | 1 => beginMapped (.label 2) .read s
  | _ =>
      let d := decideLabel s.txe (s.txe.labelStore.getD 0 []) (s.txe.labelStore.getD 1 []) (s.txe.labelStore.getD 2 [])
      labelDecided d.1 d.2.1 d.2.2 s

/-- The label read job is taken in LABEL_READ (R115): a label whose outcome still stands is not read. -/
def takeLabelRead (s : State) : Act :=
  if s.txe.labelStatus = .unread ∨ s.txe.labelStatus = .bad then
    beginMapped (.label 0) .read (s.modTxe fun t =>
      { t with job := some { kind := .labelRead, role := .background, work := .labelRead, flushing := none, suspended := none } })
  else send .labelReadEnded s

/-! ### The end of a sector operation -/

/-- What a job notes when one of its sectors has been transferred; `q` is the position of its block in the order. -/
def Job.advance (q : Nat) (j : Job) : Job :=
  if j.flushing.isSome then j
  else
    match j.work with
    | .label (_ :: t) begun => { j with work := .label t begun }
    | w => { j with work := w.served q }

/-- The position in the executing READ of the block that a sector operation transfers. -/
def opPosition (o : SectorOp) (s : State) : Nat :=
  match o.target with
  | .block n => n - (transferRange s).1
  | .label _ | .seekOnly => 0

/-- The third sector of a label write has been written (R118). -/
def labelComplete (s : State) : Bool :=
  match jobWork s with
  | some (.label [] _) => true
  | _ => false

/-- A sector operation ends GOOD or RECOVERED (R130, R131, R135). A label write whose third sector this was has been made, whatever end or
yield is pending (R118). -/
def opEnded (recovered : Bool) (s : State) : Act :=
  match s.txe.op with
  | none => done s
  | some o =>
      let s1 := (clearOp s).modTxe fun t => { t with jobRecovered := t.jobRecovered || recovered }
      match s1.txe.job, o.target with
      | some { kind := .labelRead, .. }, .label k => labelSectorRead k s1
      | _, _ =>
          let s2 := modJob (Job.advance (opPosition o s1)) s1
          if labelComplete s2 then labelWritten s2 else boundary nextSector s2

/-- A READ's job meets a failure (R147): no further media work but reading again what is still to be delivered. With an ABORT pending and earlier blocks
undelivered the READ has not reached its end, and it ends ABORTED (the model's choice, assumption 21). A segment whose flush for allocation failed stays
attached FLUSH until the job ends (the model's choice, assumption 46). -/
def failRead (f : ReadFailure) (s : State) : Act :=
  let s1 := modJob (fun j =>
    { j with flushing := none, suspended := none,
             work := match j.work with
               | .read next medium again _ => .read next medium (again.filter fun q => decide (q < f.limit)) (some f)
               | w => w }) s
  if f.limit ≤ blocksDone s1 then finishRead s1 else boundary readWork s1

/-- A label write fails or is cut off: in VALID, label modified is set (R118). -/
def labelWriteFailed (s : State) : State :=
  s.modTxe fun t => { t with labelModified := t.labelModified || t.labelStatus == .valid }

/-- The block of a sector operation as a detail; LABEL for a label sector (R156). -/
def opDetail : OpTarget → Detail
  | .block n => .block n
  | .label _ => .table 6
  | .seekOnly => .noDetail

/-- The position at which a READ whose flush for allocation fails ends its delivery: the one whose sector waits, else the one the job serves next, which
a block waiting to be read again is (the model's choice, assumption 19). -/
def readPosition (j : Job) (first count : Nat) : Nat :=
  match j.suspended, j.work with
  | some { target := .block n, .. }, _ => n - first
  | _, .read next _ again failure => (nextPosition next count again failure).getD next
  | _, _ => 0

/-- The departure flush ends without success (R156). -/
def departureEnds (r : Outcome) (d : Detail) (s : State) : Act :=
  { state := closeJob s, signals := [if r = .held then .flushHeld else .flushFailed d, .slotFree, .slotIdle] }

/-- A sector operation fails with DATA_ERROR, WRITE_FAULT, SEEK_ERROR or HELD, and the job's owner decides (R135). -/
def opFailed (r : Outcome) (s : State) : Act :=
  match s.txe.op, s.txe.job with
  | some o, some j =>
      let s1 := clearOp s
      match j.kind with
      | .labelRead => labelDecided .bad none [] s1
      | .readAhead => endBackground s1
      | .flush =>
          let s2 := match j.work with
            | .label _ _ => labelWriteFailed s1
            | _ => s1
          if j.role = .departure then departureEnds r (opDetail o.target) s2 else endBackground s2
      | .order =>
          match j.work with
          | .read _ _ _ _ =>
              let first := (transferRange s).1
              match j.flushing, o.target with
              | none, .block n => failRead { outcome := r, detail := .block n, limit := n - first } s1
              | _, t => failRead { outcome := r, detail := opDetail t, limit := readPosition j first (transferRange s).2 } s1
          | .label _ _ =>
              if r = .held then endOrderJobPlain .held (if o.target = .label 1 then s1 else labelWriteFailed s1)
              else endOrderJobPlain .writeFault (labelWriteFailed s1)
          | .seek => endOrderJobPlain r s1
          | .write _ _ | .flush | .labelRead | .readAhead _ _ _ => endOrderJob r (opDetail o.target) [] s1
  | _, _ => done s

/-- One retry is counted against the limit (R134): the ladder's new offset, or `resend`, sends a target request; else the phase is the
one the rule that counts the retry gives. -/
def countRetry (resend : Bool) (ph : OpPhase) (s : State) : Act :=
  match s.txe.op with
  | none => done s
  | some o =>
      if o.retries < s.lif.settings.retryLimit then
        let o1 := { o with retries := o.retries + 1, phase := ph }
        let s1 := (setOp o1 s).modTxe fun t => { t with retryCounter := satAdd 65535 t.retryCounter 1 }
        (if resend ∨ ladderOffset o1.retries ≠ ladderOffset o.retries then seekOp o1 s1 else done s1).andThen (boundary done)
      else opFailed (if o.dir = .read then .dataError else .writeFault) s

/-- The phase after a torn sector or an abandoned read (R130, R132). -/
def phaseAfterCut (s : State) : OpPhase := if s.svc.mode = .follow then .looking else .positioning

/-- The TXE looks at what its transfer depends on (R130, R132, R136): a write whose gate condition failed is torn, a read without the speed lock or
FOLLOW is abandoned. An abandoned field leaves the bytes of its place as they were (the model's choice, assumption 53). -/
def mediaWatch (s : State) : Act :=
  match s.txe.op with
  | none => done s
  | some o =>
      if o.phase ≠ .transferring then done s
      else if (o.dir = .write ∧ gateAllowed s = false) ∨
          (o.dir = .read ∧ (s.spc.speedLock = false ∨ s.svc.mode ≠ .follow)) then
        countRetry false (phaseAfterCut s) (mediaRelease (s.modTxe fun t => { t with gate := false }))
      else done s

/-! ### Reports of the SVC (R128) -/

/-- The on-track report to TRANSFER (R128, R139). -/
def transferOnTrack (s : State) : Act :=
  match s.txe.op with
  | none => done s
  | some o =>
      if o.phase ≠ .positioning then done s
      else if o.target = .seekOnly then seekDone s
      else done (setOp { o with phase := .looking } s)

/-- The SEEK_ERROR report to TRANSFER (R128): a first timeout seeks again, a second fails the operation. -/
def transferSeekError (s : State) : Act :=
  match s.txe.op with
  | none => done s
  | some o =>
      if o.phase ≠ .positioning then done s
      else
        match s.svc.mode with
        | .seek | .settle =>
            let o1 := { o with seekFailures := o.seekFailures + 1 }
            if o1.seekFailures < 2 then seekOp o1 s else opFailed .seekError (setOp o1 s)
        | .parked | .loading | .follow | .retract | .lost => done s

/-! ### Sector marks and fields (R129 to R133) -/

/-- The attachment a job gives the segments it fills. -/
def jobAttachment (s : State) : Attachment :=
  match s.txe.job with
  | some { kind := .readAhead, .. } => .readAhead
  | _ => .order

/-- The wanted mark of a READ (R130, R145). -/
def readAtMark (o : SectorOp) (s : State) : Act :=
  match o.target with
  | .seekOnly => done s
  | .label _ => done (setOp { o with phase := .transferring } s)
  | .block n =>
      if blockValid n s then opEnded false s
      else
        match placeAtMark n (jobAttachment s) s with
        | (s1, some _) => done (mediaTake (setOp { o with phase := .transferring } s1))
        | (s1, none) =>
            let s2 := s1.modTxe fun t => { t with missedRevolutions := satAdd 65535 t.missedRevolutions 1 }
            match orderInSlot s2, dirtyCandidate s2 with
            | true, some i => beginSegmentFlush i (some o) s2
            | _, _ => done s2

/-- The first sector write of a label write begins (R119). -/
def Job.beginLabel (j : Job) : Job :=
  match j.work with
  | .label todo _ => { j with work := .label todo true }
  | _ => j

/-- The gate opens at the wanted mark, and the buffer port is requested, for a block and for a label sector (R131, assumption 23). -/
def openGate (o : SectorOp) (s : State) : State :=
  modJob Job.beginLabel (mediaTake ((setOp { o with phase := .transferring } s).modTxe fun t => { t with gate := true }))

/-- The wanted mark of a WRITE (R131, R133). -/
def writeAtMark (o : SectorOp) (s : State) : Act :=
  if writeHold s then
    done (s.modTxe fun t => { t with holdTimer := if t.holdTimer.isSome then t.holdTimer else some Config.holdWaitTime })
  else if s.csq.writeProtected then opFailed .writeFault s
  else if gateAllowed s = false then countRetry false .looking s
  else done (openGate o s)

/-- A sector mark, in the order of R129. -/
def sectorMarkAct (h : SectorHeader) (s : State) : Act :=
  match s.txe.op with
  | none => done s
  | some o =>
      if o.phase ≠ .looking ∨ s.spc.speedLock = false then done s
      else if s.svc.mode ≠ .follow then done (setOp { o with phase := .positioning } s)
      else if h.checkGood = false then countRetry false .looking s
      else if h.cylinder ≠ o.cylinder ∨ h.head ≠ o.head then countRetry true .positioning s
      else if h.sector ≠ o.sector then done s
      else
        match o.dir with
        | .read => readAtMark o s
        | .write => writeAtMark o s

/-- A READ order's job has read a block from the medium (R146). -/
def Job.readMedium (j : Job) : Job :=
  match j.work with
  | .read next _ again failure => { j with work := .read next true again failure }
  | _ => j

/-- Keep a label sector in the label store. -/
def storeLabel (k : Nat) (data : List Byte) (s : State) : State :=
  s.modTxe fun t => { t with labelStore := t.labelStore.set k (padTo 512 data) }

/-- A read field ends (R130). -/
def readFieldAct (data : List Byte) (good : Bool) (s : State) : Act :=
  match s.txe.op with
  | none => done s
  | some o =>
      if o.phase ≠ .transferring ∨ o.dir ≠ .read then done s
      else
        match o.target with
        | .seekOnly => done s
        | .label k =>
            let s1 := storeLabel k data s
            if good then opEnded (decide (0 < o.retries)) s1 else countRetry false .looking s1
        | .block n =>
            match findWindow (windowBase n) s with
            | none => countRetry false .looking (mediaRelease s)
            | some i =>
                let s1 := storeBlock i n data (mediaRelease s)
                if good then opEnded (decide (0 < o.retries)) (modJob Job.readMedium (addValid i n s1))
                else countRetry false .looking s1

/-- Count a block written toward the executing order's blocks done: every block for a FLUSH order, the order's own placed blocks for a WRITE
that writes through (R151, R155). -/
def countWritten (n : Nat) (s : State) : State :=
  match orderInSlot s, jobWork s with
  | true, some .flush => setBlocks (blocksDone s + 1) s
  | true, some (.write true _) =>
      if (transferRange s).1 ≤ n ∧ n < (transferRange s).1 + s.lif.expectedIndex then setBlocks (blocksDone s + 1) s else s
  | _, _ => s

/-- What the channel has carried out to the medium. -/
def sentBy (o : SectorOp) (data : List Byte) (s : State) : State :=
  s.modTxe fun t => { t with gate := false, sentField := some { cylinder := o.cylinder, head := o.head, sector := o.sector, data := data } }

/-- A write field ends (R131). -/
def writeFieldAct (s : State) : Act :=
  match s.txe.op with
  | none => done s
  | some o =>
      if o.phase ≠ .transferring ∨ o.dir ≠ .write then done s
      else
        match o.target with
        | .seekOnly => done s
        | .label k => opEnded (decide (0 < o.retries)) (sentBy o (s.txe.labelStore.getD k []) s)
        | .block n =>
            match findWindow (windowBase n) s with
            | none => opEnded (decide (0 < o.retries)) s
            | some i => opEnded (decide (0 < o.retries)) (countWritten n (clearDirty i n (sentBy o (loadBlock i n s) s)))

/-- The hold wait timer runs out (R133). -/
def holdWaitAct (s : State) : Act := if s.txe.holdTimer.isSome then opFailed .held s else done s

/-- A parity error in the block being written (R132, R158): the sector is torn without a retry and the job goes on. -/
def mediaParityAct (s : State) : Act :=
  match s.txe.op with
  | some { target := .block n, dir := .write, phase := .transferring, .. } =>
      match findWindow (windowBase n) s with
      | some i => boundary nextSector (clearOp (loseBlock i n s))
      | none => done s
  | _ => done s

/-! ### Requests for the slot (R124, R125) -/

/-- A yielding job is given yield pending, and ends at once if it is at its boundary (R125). -/
def requestYield (s : State) : Act :=
  if slotYields s then boundary done (s.modTxe fun t => { t with yieldPending := true }) else done s

/-- A yielding job taken into the slot while calibration is due in READY yields (R125). -/
def yieldIfDue (s : State) : Act :=
  if s.svc.cal.due ∧ s.csq.lifecycle = .ready then requestYield s else done s

/-- A fresh job. -/
def newJob (kind : JobKind) (role : FlushRole) (w : Work) : Job :=
  { kind := kind, role := role, work := w, flushing := none, suspended := none }

/-- Put a job into the empty slot. -/
def takeJob (j : Job) (s : State) : State := s.modTxe fun t => { t with job := some j }

/-- The background flush is requested; it is taken only with the slot empty and after the waiting requests (R124, R154). -/
def requestBackground (s : State) : Act :=
  if s.txe.job.isNone ∧ s.csq.lifecycle = .ready ∧ s.sgc.flushWanted ∧ s.txe.orderWaits = false ∧ s.txe.departureWaits = false then
    (flushWork ((takeJob (newJob .flush .background .flush) s).modSgc fun g => { g with flushWanted := false })).andThen yieldIfDue
  else done s

/-- The departure flush is taken into the empty slot. -/
def takeDeparture (s : State) : Act :=
  flushWork ((takeJob (newJob .flush .departure .flush) s).modTxe fun t => { t with departureWaits := false })

/-- The departure flush is requested (R124). -/
def requestDeparture (s : State) : Act :=
  match s.txe.job with
  | none => takeDeparture s
  | some j =>
      if j.kind = .flush ∧ j.role = .background then
        done (modJob (fun j => { j with role := .departure }) (s.modTxe fun t => { t with yieldPending := false }))
      else if j.kind = .readAhead then requestYield (s.modTxe fun t => { t with departureWaits := true })
      else done (s.modTxe fun t => { t with departureWaits := true })

/-- A departure is cancelled (R16, R124): the flush goes on in the background, a waiting request is taken back. -/
def departureCancelled (s : State) : State :=
  modJob (fun j => { j with role := .background }) (s.modTxe fun t => { t with departureWaits := false })

/-- The read-ahead after a READ (R148), when the slot is empty, no request waits and the setting is on. -/
def startReadAhead (first count : Nat) (s : State) : Act :=
  if s.txe.job.isNone ∧ s.csq.lifecycle = .ready ∧ s.lif.settings.readAhead ∧ s.txe.orderWaits = false ∧
      s.txe.departureWaits = false ∧ 0 < count then
    let last := first + count - 1
    let second := windowBase last + 16
    let w := Work.readAhead (windowBase last) (last % 16 + 1) (if second < s.txe.capacity then some second else none)
    (aheadWork (windowBase last) (last % 16 + 1) (if second < s.txe.capacity then some second else none)
      (takeJob (newJob .readAhead .background w) s)).andThen yieldIfDue
  else done s

/-- The CSQ ends the job in the slot at once, whatever its phase (R126): a label write cut off counts as failed (R118), and the waiting requests
are emptied. -/
def endJobNow (s : State) : State :=
  let s1 := match jobWork s with
    | some (.label _ _) => labelWriteFailed s
    | _ => s
  (closeJob s1).modTxe fun t => { t with orderWaits := false, departureWaits := false }

/-! ### Orders of the TXE in the slot -/

/-- REASSIGN's checks and its change of the table, at one event (R111, R112). -/
def reassignAct (n : Nat) (s : State) : Act :=
  if s.txe.labelStatus ≠ .valid then endOrderJobPlain .labelBad s
  else if s.csq.writeProtected then endOrderJobPlain .writeProtected s
  else if s.txe.capacity ≤ n then endOrderJobPlain .outOfRange s
  else if (lookupDefect n s.txe.defects).isSome then endOrderJobPlain .done s
  else if 128 ≤ s.txe.defects.length then endOrderJobPlain .tableFull s
  else
    match freeSpare s.txe.spareCount s.txe.defects with
    | none => endOrderJobPlain .noSpare s
    | some k =>
        let s1 := s.modTxe fun t => { t with defects := insertDefect { block := n, spare := k } t.defects, labelModified := true }
        match findWindow (windowBase n) s1 with
        | some i => endOrderJobPlain .done (if (segmentAt s1 i).valid.contains (n % 16) then addDirty i n s1 else s1)
        | none => endOrderJobPlain .done s1

/-- Checks 1 to 4 of R110; none when they pass. -/
def defectLoadRefused (s : State) : Option Outcome :=
  if s.csq.lifecycle = .empty then some .noCartridge
  else if s.csq.lifecycle ≠ .ready then some .notReady
  else if s.txe.labelStatus ≠ .valid then some .labelBad
  else if s.csq.writeProtected then some .writeProtected
  else if dirtyCount s ≠ 0 then some .dirty
  else none

/-- The list a DEFECT image holds, if it passes check 5 of R110. -/
def defectImage (s : State) : Option (List DefectEntry) :=
  match defectsOf s.lif.loadImage with
  | some l => if defectsOk s.txe.capacity s.txe.spareCount l then some l else none
  | none => none

/-- LOAD_TABLE DEFECT in the slot (R110): checks 1 to 4 again, and the new list. -/
def loadDefectAct (s : State) : Act :=
  match defectLoadRefused s with
  | some o => endOrderJobOwned o s
  | none =>
      match defectImage s with
      | none => endOrderJobOwned .badParameter s
      | some l => endOrderJobOwned .done (freeAll (s.modTxe fun t => { t with defects := l, labelModified := true }))

/-- The executing order's job is taken into the empty slot and begins (R123, R124). -/
def takeOrderJob (s : State) : Act :=
  let s0 := (setStage .inSlot s).modTxe fun t => { t with orderWaits := false }
  match orderKind s with
  | some (.read _ _) => readWork (takeJob (newJob .order .background (.read 0 false [] none)) s0)
  | some (.write _ _) => done (takeJob (newJob .order .background (.write (!s.lif.settings.writeBack) [])) s0)
  | some .flush => flushWork (takeJob (newJob .order .background .flush) s0)
  | some (.seek _ _) => seekWork (takeJob (newJob .order .background .seek) s0)
  | some (.reassign n) => reassignAct n (takeJob (newJob .order .background .flush) s0)
  | some (.commitLabel _) => beginLabelWrite (takeJob (newJob .order .background (.label [1, 2, 0] false)) s0)
  | some (.loadTable _ _) => loadDefectAct (takeJob (newJob .order .background .flush) s0)
  | _ => done s0

/-- A waiting ORDER request is taken as soon as the slot is empty (R124). -/
def takeWaiting (s : State) : Act :=
  if s.txe.job.isNone ∧ s.txe.orderWaits ∧ (s.csq.lifecycle = .ready ∨ s.csq.lifecycle = .flush) then takeOrderJob s else done s

/-- The executing order asks for the slot (R124). -/
def requestSlot (s : State) : Act :=
  match s.txe.job with
  | none => takeOrderJob s
  | some _ => requestYield ((setStage .waitSlot s).modTxe fun t => { t with orderWaits := true })

end Sys2Proof.Machine
end

