-- ==== Sys2Proof/Machine/Sequencer.lean ====
section
/-! DEFINITION. The Cartridge Sequencer: entries to the lifecycle states (R9 to R13, R17, R20), leaving READY (R15, R16), the one-shot and ejection (R8,
R18, R19), faults (R21 to R24), the sensors (R4, R6), and the orders it carries out or answers first (R25 to R29). -/

namespace Sys2Proof.Machine

/-! ### Causes and stop reasons (R15) -/

/-- The causes for leaving READY. -/
inductive Cause where
  | stopOrder | ejectOrder | button | standby | park
  deriving DecidableEq, Repr

/-- Add a cause to the departure causes. -/
def Causes.add (c : Cause) (x : Causes) : Causes :=
  match c with
  | .stopOrder => { x with stopOrder := true }
  | .ejectOrder => { x with ejectOrder := true }
  | .button => { x with button := true }
  | .standby => { x with standby := true }
  | .park => { x with park := true }

/-- What a cause makes of the stop reason. -/
def reasonAfter (c : Cause) (r : StopReason) : StopReason :=
  match c with
  | .park => .fault
  | .standby => .standby
  | .stopOrder | .ejectOrder | .button => if r = .fault then .fault else .order

/-- The departure causes hold STANDBY alone (R16). -/
def standbyAlone (s : State) : Bool := s.csq.causes == noCauses.add .standby

/-- Set eject pending; `button` notes that the button asked. -/
def askEject (button : Bool) (s : State) : State :=
  s.modCsq fun c => { c with ejectPending := true, ejectByButton := c.ejectByButton || button }

/-- Clear eject pending. -/
def clearEject (s : State) : State := s.modCsq fun c => { c with ejectPending := false, ejectByButton := false }

/-- Set the stop reason. -/
def setReason (r : StopReason) (s : State) : State := s.modCsq fun c => { c with stopReason := r }

/-- A start has failed or an emergency has occurred: fault hold set, stop reason FAULT. -/
def faultStop (s : State) : State := s.modCsq fun c => { c with faultHold := true, stopReason := .fault }

/-- Nothing is left of a STOP or EJECT that a link reset cut loose (R3). -/
def dropCarried (s : State) : State := s.modCsq fun c => { c with carried := none }

/-- Clear the departure causes. -/
def clearCauses (s : State) : State := s.modCsq fun c => { c with causes := noCauses }

/-! ### Entries -/

/-- Enter READY (R14, R154), with eject pending as it stands at the entry (R6). -/
def enterReady (s : State) : Act := send (.readyEntered s.csq.ejectPending) (startFlushTimer (restartStandby (enter .ready s)))

/-- Enter UNLOAD (R17): the heads are asked to retract, unless a retraction is already in progress, in RETRACT or LOST. -/
def enterUnload (s : State) : Act :=
  let s1 := enter .unload s
  match s1.svc.mode with
  | .retract | .lost => done s1
  | .parked | .loading | .seek | .settle | .follow => servoRetract s1

/-- Enter SPIN_DOWN (R17). -/
def enterSpinDown (s : State) : Act := spindleBrake (enter .spinDown s)

/-- Ask for one head load in HEAD_LOAD (R11). -/
def loadHeads (s : State) : Act := servoLoad (s.modCsq fun c => { c with loadAttempts := c.loadAttempts + 1 })

/-- Check the gates of R9 and enter SPIN_UP. -/
def spinGateCheck (s : State) : State :=
  if s.csq.lifecycle = .stopped ∧ s.csq.spinUpRequest ∧ s.smn.roundComplete ∧ gateShut s = false then
    spindleSpinUp (enter .spinUp (s.modCsq fun c => { c with spinUpRequest := false }))
  else s

/-- Set the spin-up request (R9). -/
def requestSpinUp (s : State) : State := spinGateCheck (s.modCsq fun c => { c with spinUpRequest := true })

/-- The tag of the CALIBRATE order that waits for its pass, if there is one (R95, R101); after a link reset the tag it had, already freed (assumption
42). -/
def passTag (s : State) : Option Nat :=
  match s.lif.executing with
  | some e => if e.stage = .waitPass then some e.order.tag else none
  | none => none

/-- Enter CALIBRATE (R13, R95). -/
def enterCalibrate (s : State) : Act := passRequest (passTag s) (enter .calibrate s)

/-- In READY with calibration due and no order's job in the slot or waiting for it, CALIBRATE is entered, once a background job has yielded (R13,
R124). -/
def calibrationCheck (s : State) : Act :=
  if s.csq.lifecycle = .ready ∧ s.svc.cal.due then
    match s.txe.job with
    | none => if s.txe.orderWaits then done s else enterCalibrate s
    | some _ => requestYield s
  else done s

/-- Set calibration due, and tell the CSQ (R93). -/
def setDue (s : State) : Act := send .calibrationDue (modCal (fun c => { c with due := true }) s)

/-- End the CALIBRATE order whose pass has ended (R99, R101). -/
def endPassOrder (o : Outcome) (s : State) : Act :=
  match s.svc.cal.passOrder with
  | none => done s
  | some _ =>
      let s1 := modCal (fun c => { c with passOrder := none }) s
      if (passTag s1).isSome then endOwned o s1 else done s1

/-! ### Leaving READY (R15, R16) -/

/-- A proceeded CALIBRATE order that has not reached its pass ends NOT_READY (R101). -/
def dropPassOrder (s : State) : Act := if (passTag s).isSome then endPlain .notReady s else done s

/-- Whether a cause also sets eject pending. -/
def Cause.ejects : Cause → Bool
  | .ejectOrder | .button => true
  | .stopOrder | .standby | .park => false

/-- Leave READY for FLUSH (R15). -/
def depart (c : Cause) (s : State) : Act :=
  let s1 := if c.ejects then askEject (c == .button) s else s
  let s2 := s1.modCsq fun x =>
    { x with departureReason := x.stopReason, causes := noCauses.add c, stopReason := reasonAfter c x.stopReason }
  (requestDeparture (enter .flush s2)).andThen dropPassOrder

/-- A further cause in FLUSH (R15). -/
def joinDeparture (c : Cause) (s : State) : State :=
  (if c.ejects then askEject (c == .button) s else s).modCsq fun x =>
    { x with causes := x.causes.add c, stopReason := reasonAfter c x.stopReason }

/-- The stop reason is set back to the departure stop reason and the CSQ returns to READY (R16). -/
def returnToReady (s : State) : Act := enterReady ((clearCauses s).modCsq fun c => { c with stopReason := c.departureReason })

/-- A departure with STANDBY alone is cancelled (R16): the order that cancels it makes the flush, now a background flush, yield (R124). -/
def cancelDeparture (s : State) : Act := (returnToReady (departureCancelled s)).andThen requestYield

/-- A STOP or EJECT order is executing. -/
def leaverExecuting (s : State) : Bool := stopExecuting s || ejectExecuting s

/-- End an executing STOP or EJECT order with the blocks done of every such report, 0. -/
def endLeaver (o : Outcome) (d : Detail) (s : State) : Act := if leaverExecuting s then endOrder o d 0 s else done s

/-- A BUTTON cause is answered by EJECT_REQUEST (R16). -/
def answerButton (s : State) : State := if s.csq.causes.button then latch .ejectRequest s else s

/-- Flush complete (R16, case 1). An order that still waits for the slot ends NOT_READY (assumption 9). -/
def flushCompleteAct (s : State) : Act :=
  if s.csq.lifecycle = .flush then
    (enterUnload (clearCauses (endJobNow s))).andThen fun s1 =>
      if (s1.lif.executing.map fun e => e.stage) = some .waitSlot then endPlain .notReady s1 else done s1
  else done s

/-- Flush failed (R16, case 2). An attached order's end dispatches the next order in READY before the calibration check (the model's choice,
assumption 15). -/
def flushFailedAct (d : Detail) (s : State) : Act :=
  if s.csq.lifecycle = .flush then ((endLeaver .flushFailed d (answerButton s)).andThen fun s1 => returnToReady (clearEject s1)) else done s

/-- Flush held (R16, case 3): with PARK the CSQ stays in FLUSH and the flush waits for the end of write hold (R156). Back in READY, an attached order's
end dispatches the next order before the calibration check (the model's choice, assumption 15). -/
def flushHeldAct (s : State) : Act :=
  if s.csq.lifecycle = .flush then
    (endLeaver .held .noDetail (answerButton s)).andThen fun s1 =>
      let s2 := clearEject s1
      if s2.csq.causes.park then
        done ((s2.modCsq fun c => { c with causes := noCauses.add .park }).modSgc fun g => { g with heldDeparture := true })
      else returnToReady s2
  else done s

/-! ### Ejection (R8, R18 to R20) -/

/-- The width of a pulse, by the eject pulse setting (R8). -/
def pulseWidth (s : State) : Nat := if s.lif.settings.ejectLong then 160000 else 40000

/-- A pulse request to the one-shot (R8): refused under an engaged lock. -/
def pulseRequest (s : State) : State :=
  s.modCsq fun c => { c with oneShot := if c.lockEngaged then none else some (pulseWidth s) }

/-- A stop request to the one-shot (R8). -/
def pulseStop (s : State) : State := s.modCsq fun c => { c with oneShot := none }

/-- Step 1 of R18. -/
def firePulse (s : State) : State := pulseRequest (s.modCsq fun c => { c with ejectPulses := c.ejectPulses + 1 })

/-- Enter EJECT for a round (R18, R19). -/
def startRound (r : EjectRound) (s : State) : State :=
  firePulse (enter .eject (s.modCsq fun c => { c with lockEngaged := false, ejectPulses := 0, ejectRound := r }))

/-- Ejection is refused over buffered data (R18). -/
def refuseEjection (s : State) : Act :=
  let s1 := clearEject (if s.csq.ejectByButton then latch .ejectRequest s else s)
  if ejectExecuting s1 then endOrder .dirty .noDetail 0 s1
  else if stopExecuting s1 then endOrder .done .noDetail 0 s1 else done s1

/-- The cartridge leaves (R18, R19, R20). -/
def cartridgeGone (s : State) : Act :=
  let s1 := (enter .empty (pulseStop s)).modCsq fun c =>
    { c with ejectPending := false, ejectByButton := false, writeProtected := false }
  let s2 := latch .ejected (freeAll (forgetCartridge s1))
  if ejectExecuting s2 then endOrder .done .noDetail 0 s2 else done s2

/-- The presence sensor reads false in EJECT or JAMMED: taken at once, also when it changed before the state was entered (R4, R18, R19). -/
def senseGone (s : State) : Act :=
  if (s.csq.lifecycle = .eject ∨ s.csq.lifecycle = .jammed) ∧ s.pins.present = false then cartridgeGone s else done s

/-- A STOP order is reported DONE when the CSQ leaves STOPPED for EJECT (R27). -/
def endStopDone (s : State) : Act := if stopExecuting s then endOrder .done .noDetail 0 s else done s

/-- Begin ejection in STOPPED (R18): only with the servo PARKED and the most recent stop check having confirmed the stop. -/
def beginEjection (s : State) : Act :=
  if dirtyCount s ≠ 0 ∨ s.txe.labelModified then refuseEjection s
  else if s.svc.mode = .parked ∧ s.spc.lastCheckConfirmed then
    ((endAwaited .notReady (startRound .first (s.modCsq fun c => { c with spinUpRequest := false }))).andThen endStopDone).andThen senseGone
  else done s

/-- A retry round begins in JAMMED (R19). -/
def retryRound (s : State) : Act := senseGone (startRound .retry s)

/-- A pulse runs to its end (R8). -/
def pulseEndAct (s : State) : State :=
  if s.csq.oneShot.isSome then
    (pulseStop s).modCsq fun c => { c with ejectCheck := if c.lifecycle = .eject then some Config.ejectCheckTime else c.ejectCheck }
  else s

/-- The eject check timer runs out: with the sensor still true the next pulse is fired, or after the third JAMMED is entered (R18). -/
def ejectCheckAct (s : State) : Act :=
  if s.csq.ejectCheck.isSome ∧ s.csq.lifecycle = .eject then
    let s1 := s.modCsq fun c => { c with ejectCheck := none }
    if s1.pins.present = false then cartridgeGone s1
    else if s1.csq.ejectPulses < 3 then done (firePulse s1)
    else
      let s2 := enter .jammed (latch .jammed s1)
      if ejectExecuting s2 then endOrder .jammed .noDetail 0 s2 else done s2
  else done s

/-- An EJECT in a RETRY round is stopped by ABORT (R28). -/
def stopRetryRound (s : State) : Act :=
  endPlain .aborted (enter .jammed ((pulseStop s).modCsq fun c => { c with ejectCheck := none }))

/-! ### Faults (R21 to R24) -/

/-- The emergency path ends the executing order NOT_READY (R23): a CALIBRATE whose pass it interrupts with detail BIAS (R101), and every other order with
the detail its kind always carries (R171). -/
def endByEmergency (s : State) : Act :=
  let s1 := modCal (fun c => { c with passOrder := none }) s
  if s.svc.cal.passOrder.isSome ∧ (passTag s).isSome then endOwned .notReady s1 else endPlain .notReady s1

/-- The emergency path (R23). It also ends what is left of a STOP or EJECT that a link reset cut loose, as it ends the executing order
(assumption 37). -/
def emergency (s : State) : Act :=
  (servoRetract (passInterrupt (endJobNow s))).andThen fun s1 =>
    let s2 := enter .unload (faultStop (dropCarried (clearEject (clearCauses s1))))
    (endByEmergency s2).andThen fun s3 => send .dispatch s3

/-- The state to resume after a reload (R21). -/
def returnFor : Lifecycle → ReturnState
  | .labelRead => .labelRead
  | .flush => .flush
  | _ => .ready

/-- An order that waited for the slot waits for the start that a reload makes (assumption 10). -/
def waitAgain (s : State) : State :=
  s.modLif fun l => { l with executing := l.executing.map fun e => if e.stage = .waitSlot then { e with stage := .waitStart } else e }

/-- The job of the slot ends at a reload; the order it belongs to ends SEEK_ERROR (R21). A WRITE ends so too, although R150 has the CSQ's ending of its
job give NOT_READY (the model follows R21, assumption 40). -/
def endJobAtReload (s : State) : Act :=
  if orderInSlot s then endPlain .seekError (endJobNow s) else done (waitAgain (endJobNow s))

/-- A servo LOST with a reload left (R21, R100). -/
def reload (s : State) : Act :=
  (endJobAtReload (passInterrupt s)).andThen fun s1 =>
    let s2 := enter .headLoad (s1.modCsq fun c =>
      { c with reloads := c.reloads + 1, returnState := returnFor c.lifecycle, loadAttempts := 0 })
    ((loadHeads s2).andThen (endPassOrder .seekError)).andThen fun s3 => send .dispatch s3

/-- The SVC reports LOST in LABEL_READ, CALIBRATE, READY or FLUSH (R21). -/
def servoLossAct (s : State) : Act := if s.csq.reloads < 2 then reload s else emergency (latch .servoLost s)

/-- A failed load (R11). -/
def loadFailedAct (s : State) : Act :=
  if s.csq.loadAttempts < 3 then loadHeads s
  else (enterSpinDown (faultStop (latch .headFault s))).andThen (endAwaited .headFault)

/-- The SVC reports PARKED (R11, R17, R21, R73). -/
def parkedAct (c : RetractCause) (s : State) : Act :=
  match s.csq.lifecycle with
  | .unload => enterSpinDown s
  | .headLoad => if c = .requested then done s else loadFailedAct s
  | .labelRead | .calibrate | .ready | .flush => if c = .lost then servoLossAct s else done s
  | .empty | .seating | .stopped | .spinUp | .spinDown | .eject | .jammed => done s

/-- The SPC reports the loss of the speed lock (R22, R136). Without grace the emergency path ends the job at the event that would abandon its label field,
and no retry is counted for it (R126; the model's choice, assumption 51). -/
def lockLostAct (s : State) : Act :=
  match s.csq.lifecycle with
  | .headLoad | .labelRead | .calibrate => emergency (latch .speedLost s)
  | .ready | .flush =>
      mediaWatch (s.modCsq fun c => { c with grace := if c.grace.isSome then c.grace else some Config.graceTime })
  | .empty | .seating | .stopped | .spinUp | .unload | .spinDown | .eject | .jammed => done s

/-- The SPC reports the lock regained (R22). -/
def lockRegainedAct (s : State) : State := s.modCsq fun c => { c with grace := none }

/-- The grace timer runs out (R22). -/
def graceAct (s : State) : Act :=
  if s.csq.grace.isSome then
    let s1 := s.modCsq fun c => { c with grace := none }
    match s.csq.lifecycle with
    | .ready | .flush | .calibrate => emergency (latch .speedLost s1)
    | _ => done s1
  else done s

/-- A monitor PARK request (R24). -/
def parkAct (s : State) : Act :=
  match s.csq.lifecycle with
  | .ready => depart .park s
  | .flush => done (joinDeparture .park s)
  | .unload | .spinDown => done (setReason .fault s)
  | .empty | .seating | .stopped | .spinUp | .headLoad | .labelRead | .calibrate | .eject | .jammed => done s

/-- A monitor RETRACT request (R24). -/
def retractAct (s : State) : Act :=
  match s.csq.lifecycle with
  | .spinUp => ((spindleStopDriving (faultStop s)).andThen enterSpinDown).andThen (endAwaited .notReady)
  | .headLoad | .labelRead | .calibrate | .ready | .flush => emergency s
  | .unload | .spinDown => done (faultStop s)
  | .empty | .seating | .stopped | .eject | .jammed => done s

/-! ### Reports of the other blocks -/

/-- The SPC reports spin-up complete (R10). -/
def spinUpCompleteAct (s : State) : Act :=
  if s.csq.lifecycle = .spinUp then
    loadHeads (enter .headLoad (s.modCsq fun c => { c with loadAttempts := 0, reloads := 0, returnState := .nowhere }))
  else done s

/-- The SPC reports spin-up failed (R10). -/
def spinUpFailedAct (s : State) : Act :=
  if s.csq.lifecycle = .spinUp then (enterSpinDown (faultStop (latch .spinFault s))).andThen (endAwaited .spinFault) else done s

/-- The SVC reports FOLLOW reached on the load target (R11). -/
def followReachedAct (s : State) : Act :=
  if s.csq.lifecycle = .headLoad then
    let s1 := s.modCsq fun c => { c with returnState := .nowhere }
    match s.csq.returnState with
    | .nowhere | .labelRead => takeLabelRead (enter .labelRead s1)
    | .ready => enterReady s1
    | .flush => send .flushResumed (enter .flush s1)
  else done s

/-- The TXE reports the label read ended (R12). -/
def labelReadEndedAct (s : State) : Act :=
  if s.csq.lifecycle = .labelRead then if s.svc.cal.due then enterCalibrate s else enterReady s else done s

/-- The SVC reports the pass ended (R13, R101). -/
def passEndedAct (s : State) : Act :=
  if s.csq.lifecycle = .calibrate then
    (enterReady s).andThen (endPassOrder (if s.svc.cal.lastResult = .success then .done else .seekError))
  else done s

/-- The SPC reports that rotation persists (R17). A STOP or EJECT that still waits after a failed start counts as attached (the model's choice,
assumption 38). -/
def rotationPersistsAct (s : State) : Act :=
  if s.csq.lifecycle = .spinDown then endLeaver .spinFault .noDetail (dropCarried (latch .spinFault s)) else done s

/-- Whether a cartridge spins up by itself (R4, R17). -/
def autoSpin (s : State) : Bool := s.lif.settings.spinOnInsert && !s.csq.faultHold

/-- INSERTED is latched at the first stop after a power-on reset with a cartridge (R2). -/
def latchInserted (s : State) : State :=
  if s.csq.insertedDue then latch .inserted (s.modCsq fun c => { c with insertedDue := false }) else s

/-- A STOP or EJECT order that waited through a failed start is attached to the stop once STOPPED is reached: it waits for no start any more (R27, R28). -/
def attachLeaver (s : State) : State := if leaverExecuting s then setStage .departing s else s

/-- The SPC reports the stop confirmed (R17). -/
def stopConfirmedAct (s : State) : Act :=
  if s.csq.lifecycle = .spinDown then
    let s1 := attachLeaver (latchInserted (enter .stopped (dropCarried s)))
    if s1.csq.ejectPending ∨ ejectExecuting s1 ∨ s.csq.carried = some .eject then beginEjection s1
    else
      (endLeaver .done .noDetail s1).andThen fun s2 =>
        done (if s2.csq.stopReason = .insert ∧ autoSpin s2 then requestSpinUp s2 else s2)
  else done s

/-! ### Sensors (R4 to R6) -/

/-- The presence sensor changes (R4). -/
def presenceAct (present : Bool) (s : State) : Act :=
  let s1 := s.modPins fun p => { p with present := present }
  match s.csq.lifecycle, present with
  | .empty, true => done ((enter .seating s1).modCsq fun c => { c with debounce := some Config.debounceTime })
  | .seating, false => done (enter .empty s1)
  | .eject, false | .jammed, false => cartridgeGone s1
  | _, _ => done s1

/-- The presence debounce runs out (R4, R5). -/
def debounceAct (tab : Bool) (s : State) : Act :=
  if s.csq.debounce.isSome ∧ s.csq.lifecycle = .seating then
    let s1 := latch .inserted ((s.modPins fun p => { p with tab := tab }).modCsq fun c =>
      { c with lockEngaged := true, writeProtected := tab })
    let s2 := setReason .insert (enter .stopped s1)
    done (if autoSpin s2 then requestSpinUp s2 else s2)
  else done s

/-- A press of the eject button with removal allowed, by lifecycle state (R6). -/
def pressAct (s : State) : Act :=
  match s.csq.lifecycle with
  | .empty | .seating => done s
  | .stopped =>
      (endAwaited .notReady ((askEject true s).modCsq fun c => { c with spinUpRequest := false })).andThen beginEjection
  | .spinUp | .headLoad | .labelRead | .calibrate | .unload | .spinDown => done (askEject true s)
  | .ready => depart .button s
  | .flush => done (joinDeparture .button s)
  | .eject => done (if s.csq.oneShot.isSome then pulseRequest s else s)
  | .jammed => retryRound s

/-- A press is taken when the button was released since the last (R6). -/
def buttonAct (s : State) : Act :=
  if s.csq.buttonReady then
    let s1 := s.modCsq fun c => { c with buttonReady := false }
    if s1.csq.removalPrevented ∧ s1.csq.lifecycle ≠ .empty then done (latch .ejectRequest s1) else pressAct s1
  else done s

/-- The standby timer runs out in READY (R14). -/
def standbyAct (s : State) : Act :=
  if s.csq.standby.isSome ∧ s.csq.lifecycle = .ready then depart .standby s else done s

/-! ### Orders (R25 to R29) -/

/-- The checks of R138 on a READ or WRITE; none when they pass. -/
def transferRefused (write : Bool) (first count : Nat) (s : State) : Option (Outcome × Detail) :=
  if count < 1 ∨ 256 < count then some (.badParameter, .block first)
  else if s.txe.labelStatus = .foreign then some (.foreign, .block first)
  else if s.txe.labelStatus ≠ .valid then some (.labelBad, .block first)
  else if write ∧ s.csq.writeProtected then some (.writeProtected, .block first)
  else if s.txe.capacity < first + count then
    some (.outOfRange, .block (if s.txe.capacity ≤ first then first else s.txe.capacity))
  else none

/-- The checks of R119 on a COMMIT_LABEL; none when they pass. -/
def commitRefused (option : Nat) (s : State) : Option Outcome :=
  if s.txe.labelStatus = .unread then some .labelBad
  else if s.csq.writeProtected then some .writeProtected
  else if s.txe.labelStatus = .foreign ∧ option ≠ 1 then some .foreign
  else none

/-- An order that needs the medium proceeds to its owner's checks and the job slot (R101, R111, R119, R138, R139, R155). -/
def proceed (s : State) : Act :=
  match orderKind s with
  | some (.read first count) =>
      match transferRefused false first count s with
      | some r => endOrder r.1 r.2 0 s
      | none => requestSlot s
  | some (.write first count) =>
      match transferRefused true first count s with
      | some r => endOrder r.1 r.2 0 s
      | none => requestSlot s
  | some (.seek cylinder head) =>
      if 1 < head then endPlain .badParameter s else if 1199 < cylinder then endPlain .outOfRange s else requestSlot s
  | some .flush | some (.reassign _) | some (.loadTable _ _) => requestSlot s
  | some (.commitLabel option) =>
      match commitRefused option s with
      | some o => endOwned o s
      | none => requestSlot s
  | some .calibrate => setDue (setStage .waitPass s)
  | _ => done s

/-- The CSQ answers an order that needs the medium (R25). -/
def mediumOrder (s : State) : Act :=
  match s.csq.lifecycle with
  | .empty => endPlain .noCartridge s
  | .seating | .eject | .jammed | .unload | .spinDown => endPlain .notReady s
  | .stopped =>
      if (s.csq.stopReason = .insert ∨ s.csq.stopReason = .standby) ∧ s.csq.faultHold = false then
        done (requestSpinUp (setStage .waitStart s))
      else endPlain .notReady s
  | .spinUp | .headLoad | .labelRead | .calibrate => done (setStage .waitStart s)
  | .ready => proceed s
  | .flush => if standbyAlone s then (cancelDeparture s).andThen proceed else endPlain .notReady s

/-- START (R26), after EMPTY is excluded and the fault hold cleared. -/
def startByState (s : State) : Act :=
  match s.csq.lifecycle with
  | .stopped => done (requestSpinUp (setStage .waitStart s))
  | .spinUp | .headLoad | .labelRead | .calibrate => done (setStage .waitStart s)
  | .ready => endPlain .done s
  | .flush => if standbyAlone s then (cancelDeparture s).andThen (endPlain .done) else endPlain .notReady s
  | .empty | .seating | .unload | .spinDown | .eject | .jammed => endPlain .notReady s

/-- START (R26). -/
def startOrder (s : State) : Act :=
  if s.csq.lifecycle = .empty then endPlain .noCartridge s
  else startByState (s.modCsq fun c => { c with faultHold := false })

/-- STOP (R27). -/
def stopOrder (s : State) : Act :=
  match s.csq.lifecycle with
  | .empty => endPlain .noCartridge s
  | .seating | .eject | .jammed => endPlain .notReady s
  | .stopped =>
      endPlain .done (s.modCsq fun c => { c with spinUpRequest := false, stopReason := reasonAfter .stopOrder c.stopReason })
  | .spinUp | .headLoad | .labelRead | .calibrate => done (setStage .waitStart s)
  | .ready => depart .stopOrder (setStage .departing s)
  | .flush => done (joinDeparture .stopOrder (setStage .departing s))
  | .unload | .spinDown =>
      done ((setStage .departing s).modCsq fun c => { c with stopReason := reasonAfter .stopOrder c.stopReason })

/-- EJECT by lifecycle state, after its checks and its option (R28). -/
def ejectByState (s : State) : Act :=
  match s.csq.lifecycle with
  | .stopped => beginEjection (setStage .departing s)
  | .spinUp | .headLoad | .labelRead | .calibrate => done (setStage .waitStart s)
  | .ready => depart .ejectOrder (setStage .departing s)
  | .flush => done (joinDeparture .ejectOrder (setStage .departing s))
  | .unload | .spinDown => done (askEject false (setStage .departing s))
  | .jammed => retryRound (setStage .departing s)
  | .empty | .seating | .eject => endPlain .notReady s

/-- The states in which DISCARD acts (R28). -/
def discardActs : Lifecycle → Bool
  | .stopped | .spinUp | .headLoad | .labelRead | .calibrate | .ready | .flush | .unload | .spinDown => true
  | .empty | .seating | .eject | .jammed => false

/-- Step 1 of R157: a FLUSH job in the slot ends at once. -/
def discardFlushJob (s : State) : Act :=
  if (s.txe.job.map fun j => j.kind) = some .flush then { state := closeJob s, signals := [.slotFree, .slotIdle] } else done s

/-- The departure flush holds the slot, waits for it, or waits for the end of write hold (R157). -/
def departureOpen (s : State) : Bool :=
  s.txe.departureWaits || s.sgc.heldDeparture ||
    (match s.txe.job with
     | some j => j.kind == .flush && j.role == .departure
     | none => false)

/-- The DISCARD option (R28, R157): in FLUSH the flush completes. -/
def discardAct (s : State) : Act :=
  if discardActs s.csq.lifecycle then
    let complete := s.csq.lifecycle == .flush && departureOpen s
    let a := (discardFlushJob s).andThen fun s1 =>
      done ((discardBlocks s1).modTxe fun t => { t with labelModified := false, departureWaits := false })
    { a with signals := if complete then [.flushComplete] else a.signals }
  else done s

/-- EJECT (R28), with or without DISCARD. -/
def ejectOrder (discard : Bool) (s : State) : Act :=
  if s.csq.lifecycle = .empty then endPlain .noCartridge s
  else if s.csq.removalPrevented then endPlain .prevented s
  else if s.csq.lifecycle = .seating ∨ s.csq.lifecycle = .eject then endPlain .notReady s
  else (if discard then discardAct s else done s).andThen ejectByState

/-- REMOVAL (R29). -/
def removalOrder (prevent : Bool) (s : State) : Act := endPlain .done (s.modCsq fun c => { c with removalPrevented := prevent })

/-- LOAD_TABLE DEFECT reaches the TXE (R110): its checks, and then the job slot. -/
def loadDefects (s : State) : Act :=
  match defectLoadRefused s with
  | some o => endOwned o s
  | none => if (defectImage s).isSome then requestSlot s else endOwned .badParameter s

/-- An order that waited for a start is taken in the state now reached (R25 to R28); a LOAD_TABLE DEFECT that a reload cut off in its wait for the slot is
checked again, so it ends NOT_READY in FLUSH (R110, assumption 10). -/
def resumeWaiting (s : State) : Act :=
  match s.lif.executing with
  | some e =>
      if e.stage = .waitStart then
        match e.order.kind with
        | .start => startOrder s
        | .stop => stopOrder s
        | .eject _ => ejectByState s
        | .loadTable _ _ => loadDefects s
        | .seek _ _ | .read _ _ | .write _ _ | .flush | .reassign _ | .commitLabel _ | .calibrate | .removal _ | .readTable _ | .set _ => mediumOrder s
      else done s
  | none => done s

/-- A cause for leaving READY is acted on in READY, and joins the departure in FLUSH (R15). -/
def leaveFor (c : Cause) (s : State) : Act :=
  match s.csq.lifecycle with
  | .ready => depart c s
  | .flush => done (joinDeparture c s)
  | .empty | .seating | .stopped | .spinUp | .headLoad | .labelRead | .calibrate | .unload | .spinDown | .eject | .jammed => done s

/-- The cause that a STOP or EJECT order gives (R15). -/
def Leave.cause : Leave → Cause
  | .stop => .stopOrder
  | .eject => .ejectOrder

/-- What is left of a STOP or EJECT order that waited for the start at a link reset is taken in the state now reached, as the order would have been
(R3, R27, R28). -/
def takeCarried (s : State) : Act :=
  match s.csq.carried with
  | none => done s
  | some l => leaveFor l.cause (dropCarried s)

/-- READY has been entered: the order that waits for the slot, what a link reset left of a STOP or EJECT, the order that waited for the start, an eject
that was pending at the entry (R6), calibration due, the order queue, a wanted flush, in this order. -/
def readyEnteredAct (eject : Bool) (s : State) : Act :=
  (((((takeWaiting s).andThen takeCarried).andThen resumeWaiting).andThen fun s1 =>
    if eject then leaveFor .button s1 else done s1).andThen calibrationCheck).andThen fun s2 =>
      { state := s2, signals := [.dispatch, .slotIdle] }

/-- A reload has returned to FLUSH: the departure flush is asked for again, what a link reset left of a STOP or EJECT joins it, and a waiting order is
taken (R11, R25). With nothing to write, the waiting order is taken before the report flush complete (the model's choice, assumption 15). -/
def flushResumedAct (s : State) : Act := ((requestDeparture s).andThen takeCarried).andThen resumeWaiting

end Sys2Proof.Machine
end

