-- ==== Sys2Proof/Machine/Monitor.lean ====
section
/-! DEFINITION. The Supply Monitor: comparison, activation and ending (R163 to R165), the actions (R166, R167), the drift check (R94, R168),
the schedule (R159, R160), a table load (R169), and write hold's end for its readers (R133, R156). -/

namespace Sys2Proof.Machine

/-- The channel converted after a channel (R159). -/
def Channel.next : Channel → Channel
  | .v12 => .v5
  | .v5 => .temp
  | .temp => .ispin
  | .ispin => .iact
  | .iact => .v12

/-- The lifecycle states an armed set covers (R162). -/
def armedIn (a : ArmedSet) (l : Lifecycle) : Bool :=
  match a with
  | .always => true
  | .ready => l == .ready
  | .spinning =>
      match l with
      | .spinUp | .headLoad | .labelRead | .calibrate | .ready | .flush | .unload | .spinDown => true
      | .empty | .seating | .stopped | .eject | .jammed => false

/-- The side on which a reading lies (R163). -/
def sideOf (l : Limits) (r : Nat) : Side :=
  if r < l.low ∧ l.lowAction ≠ .noAction then .low
  else if l.high < r ∧ l.highAction ≠ .noAction then .high
  else .neither

/-- The persistence of a side. -/
def persistenceOf (l : Limits) : Side → Nat
  | .neither => 0
  | .low => l.lowPersistence
  | .high => l.highPersistence

/-- The run after an armed reading on a side (R163). -/
def ChannelRecord.run (x : Side) (r : ChannelRecord) : ChannelRecord :=
  if x = .neither then { r with runSide := .neither, runCount := 0 }
  else if x = r.runSide then { r with runCount := min (persistenceOf r.limits x) (r.runCount + 1) }
  else { r with runSide := x, runCount := 1 }

/-- The run and the in-range count of a channel that is not armed, and of every channel at a table load (R163, R169). -/
def ChannelRecord.clearRun (r : ChannelRecord) : ChannelRecord := { r with runSide := .neither, runCount := 0, inRange := 0 }

/-- Write hold has ended (R133, R156). -/
def holdEndedAct (s : State) : Act :=
  let s1 := s.modTxe fun t => { t with holdTimer := none }
  if s1.sgc.heldDeparture ∧ s1.csq.lifecycle = .flush then requestDeparture (s1.modSgc fun g => { g with heldDeparture := false })
  else done s1

/-- The active condition of a channel ends (R165): write hold is derived again and its end taken by its readers (R167), or the CSQ checks its
spin-up gates (R9). Both come before anything else that the same reading or table load does. -/
def endCondition (c : Channel) (s : State) : Act :=
  let a := (channel s c).action
  let s1 := modChannel c (fun r => { r with active := .neither, inRange := 0 }) s
  match a with
  | .holdWrites => if writeHold s1 then done s1 else holdEndedAct s1
  | .park | .retract => done (spinGateCheck s1)
  | .noAction | .note => done s1

/-- End the condition of a channel if one is active. -/
def endIfActive (c : Channel) (s : State) : Act := if (channel s c).active = .neither then done s else endCondition c s

/-- Set the fault flag of a side. -/
def ChannelRecord.flag (x : Side) (r : ChannelRecord) : ChannelRecord :=
  { r with lowFault := r.lowFault || x == .low, highFault := r.highFault || x == .high }

/-- A condition activates on a side (R164, R166, R167). -/
def activate (c : Channel) (x : Side) (s : State) : Act :=
  (endIfActive c s).andThen fun s1 =>
    let s2 := latch .monitor (modChannel c (fun r => { r.flag x with active := x, inRange := 0 }) s1)
    match (channel s2 c).action with
    | .holdWrites => mediaWatch (latch .writeHold s2)
    | .park => send .park s2
    | .retract => send .retract s2
    | .noAction | .note => done s2

/-- The in-range count at an armed reading while a condition is active (R165). -/
def countInRange (c : Channel) (x : Side) (s : State) : Act :=
  if (channel s c).active = .neither then done s
  else if x ≠ .neither then done (modChannel c (fun r => { r with inRange := 0 }) s)
  else if 2 ≤ (channel s c).inRange + 1 then endCondition c s
  else done (modChannel c (fun r => { r with inRange := r.inRange + 1 }) s)

/-- The run has reached the persistence of its side, whose condition is not yet active (R164). -/
def activates (x : Side) (r : ChannelRecord) : Bool :=
  x != .neither && decide (persistenceOf r.limits x ≤ r.runCount) && r.active != x

/-- A reading of an armed channel (R163 to R165). -/
def armedReading (c : Channel) (x : Side) (s : State) : Act :=
  let s1 := modChannel c (ChannelRecord.run x) s
  if activates x (channel s1 c) then activate c x s1 else countInRange c x s1

/-- The comparison of a reading (R163). -/
def compareReading (c : Channel) (reading : Nat) (s : State) : Act :=
  let s1 := modChannel c (fun r => { r with latest := reading }) s
  if armedIn (channel s1 c).limits.armed s1.csq.lifecycle then armedReading c (sideOf (channel s1 c).limits reading) s1
  else endIfActive c (modChannel c ChannelRecord.clearRun s1)

/-- A temperature reading has drifted from the calibration temperature by 8 or more (R94). -/
def drifted (reading : Nat) (t : Option Nat) : Bool :=
  match t with
  | none => false
  | some x => decide (x + 8 ≤ reading) || decide (reading + 8 ≤ x)

/-- The drift check at a TEMP reading in READY (R94, R168). -/
def driftCheck (c : Channel) (reading : Nat) (s : State) : Act :=
  if c = .temp ∧ s.csq.lifecycle = .ready ∧ drifted reading s.svc.cal.temperature ∧ s.svc.cal.due = false then setDue s else done s

/-- The first IACT reading completes the round (R160). -/
def completeRound (c : Channel) (s : State) : Act :=
  if c = .iact ∧ s.smn.roundComplete = false then send .gateCheck (s.modSmn fun m => { m with roundComplete := true }) else done s

/-- The next slot begins (R159). -/
def nextSlot (s : State) : State := s.modSmn fun m => { m with slot := m.slot.next, slotTimer := Config.slotTime }

/-- A reading at the end of a slot (R159): the requests of its comparison go before the due request of its drift check, which sets calibration due before a slot
that its tearing of a sector has emptied is offered on, and the comparison of the first
IACT reading before the spin-up gate check of the completed round (the model's choice, assumption 15). -/
def monitorReadingAct (reading : Nat) (s : State) : Act :=
  let c := s.smn.slot
  ((compareReading c reading (nextSlot s)).andThen (driftCheck c reading)).andThen (completeRound c)

/-- The limits of one channel are replaced (R169). -/
def replaceLimits (c : Channel) (l : Limits) (s : State) : Act :=
  endIfActive c (modChannel c (fun r => r.clearRun) s) |>.andThen fun s1 => done (modChannel c (fun r => { r with limits := l }) s1)

/-- A monitor table is loaded (R169): every condition ends before its limits go. -/
def loadMonitor (t : List Limits) (s : State) : Act :=
  ((((replaceLimits .v12 (limitsAt t 0) s).andThen (replaceLimits .v5 (limitsAt t 1))).andThen (replaceLimits .temp (limitsAt t 2))).andThen
    (replaceLimits .ispin (limitsAt t 3))).andThen (replaceLimits .iact (limitsAt t 4))

end Sys2Proof.Machine
end

