-- ==== Sys2Proof/Machine/Operands.lean ====
section
/-! DEFINITION. The operand checks that the LIF makes itself: the enumerated parameters of an order at its dispatch (R177), the fields of a
settings record (R179, R185), and the bits of a STATUS clear set (R180, R185). -/

namespace Sys2Proof.Machine

/-- The frame count a LOAD_TABLE must carry (R177): 1 or 2 for DEFECT, 1 for every other table. -/
def frameCountOk (id frames : Nat) : Bool := frames == 1 || (id == 5 && frames == 2)

/-- A table id of section 11.2. -/
def tableIdOk (id : Nat) : Bool := decide (1 ≤ id) && decide (id ≤ 6)

/-- The enumerated parameters of an order, checked at dispatch (R177): the detail of its BAD_PARAMETER report; none when they pass. -/
def parameterFault : OrderKind → Option Detail
  | .eject option => if option ≤ 1 then none else some .noDetail
  | .removal option => if option = 1 ∨ option = 2 then none else some .noDetail
  | .commitLabel option => if option ≤ 1 then none else some .noDetail
  | .loadTable id frames =>
      if tableIdOk id = false then some .noDetail else if frameCountOk id frames then none else some (.table id)
  | .readTable id => if tableIdOk id then none else some .noDetail
  | .start | .stop | .seek _ _ | .read _ _ | .write _ _ | .flush | .reassign _ | .calibrate | .set _ => none

/-- Every field of a settings record lies within its values (R179); no mask bit above the twelve notices is set (R185). -/
def settingsOk (i : SettingsImage) : Bool :=
  decide (i.writeBack ≤ 1) && decide (i.readAhead ≤ 1) && decide (i.retryLimit ≤ 15) && decide (i.flushDelay ≤ 255) &&
    decide (i.standbyDelay ≤ 60) && decide (i.ejectPulse ≤ 1) && decide (i.brakeStep ≤ 1) && decide (i.spinOnInsert ≤ 1) &&
    i.noticeMask &&& 0xF000#16 == 0

/-- The settings record an image within its values stands for (section 11.2). -/
def settingsOf (i : SettingsImage) : Settings :=
  { writeBack := i.writeBack == 1, readAhead := i.readAhead == 1, retryLimit := i.retryLimit, flushDelay := i.flushDelay,
    standbyDelay := i.standbyDelay, ejectLong := i.ejectPulse == 1, brakeSlow := i.brakeStep == 1,
    spinOnInsert := i.spinOnInsert == 1, noticeMask := i.noticeMask }

/-- Clear the fault flags of channel `c` that a set names: bit 2c low, bit 2c + 1 high (section 11.2). -/
def ChannelRecord.clearFlags (set : Word16) (c : Nat) (r : ChannelRecord) : ChannelRecord :=
  { r with lowFault := r.lowFault && !set.getLsbD (2 * c), highFault := r.highFault && !set.getLsbD (2 * c + 1) }

/-- Clear the fault flags that a set names, on every channel. -/
def clearFaults (set : Word16) (s : State) : State :=
  s.modSmn fun m =>
    { m with v12 := m.v12.clearFlags set 0, v5 := m.v5.clearFlags set 1, temp := m.temp.clearFlags set 2,
             ispin := m.ispin.clearFlags set 3, iact := m.iact.clearFlags set 4 }

/-- Clear the counters that the counter byte names (section 11.2): from bit 0 CRC discards, retries, missed revolutions, missed servo
samples, seek errors and lost blocks, the last with the last lost block (R180). -/
def clearCounters (b : Byte) (s : State) : State :=
  (((s.modLif fun l => { l with crcDiscards := if b.getLsbD 0 then 0 else l.crcDiscards }).modTxe fun t =>
      { t with retryCounter := if b.getLsbD 1 then 0 else t.retryCounter,
               missedRevolutions := if b.getLsbD 2 then 0 else t.missedRevolutions }).modSvc fun v =>
      { v with pos := { v.pos with totalMissed := if b.getLsbD 3 then 0 else v.pos.totalMissed },
               seekErrors := if b.getLsbD 4 then 0 else v.seekErrors }).modSgc fun g =>
      { g with lostBlocks := if b.getLsbD 5 then 0 else g.lostBlocks, lastLost := if b.getLsbD 5 then none else g.lastLost }

/-- A clear set acts, when the host has taken the STATUS_REPORT (R180). -/
def applyClear (x : ClearSet) (s : State) : State :=
  clearCounters x.counters (clearFaults x.faults (s.modLif fun l => { l with notices := l.notices &&& ~~~x.notices }))

end Sys2Proof.Machine
end

