-- ==== Sys2Proof/Machine/Link.lean ====
section
/-! DEFINITION. The Link Interface: handshakes and acceptance (R173), dispatch (R177), table transfers and settings (R178, R179), data frames (R149,
R174), polls and the host's handshakes (R146, R175), status (R180, R186), abort (R181), and the link reset (R182). -/

namespace Sys2Proof.Machine

/-! ### Handshakes -/

/-- ACCEPT. -/
def handAccept : Byte := 0xA5
/-- BUSY. -/
def handBusy : Byte := 0xB2
/-- REFUSED. -/
def handRefused : Byte := 0xC3

/-- The drive answers a frame with a handshake. A frame from the host ends the exchange of the frame the drive sent before. -/
def answer (h : Byte) (s : State) : State := (linkRelease s).modLif fun l => { l with exchange := .noFrame, cable := [h] }

/-! ### Acceptance (R173) -/

/-- A tag held by a queued order, by the executing order or by a pending report. -/
def tagInUse (tag : Nat) (s : State) : Bool :=
  (s.lif.orderQueue.any fun o => o.tag == tag) || (s.lif.reports.any fun r => r.tag == tag) ||
    (match s.lif.executing with
     | some e => !e.remnant && e.order.tag == tag
     | none => false)

/-- How many places of the report queue are held (R173, R176, R182). -/
def placesHeld (s : State) : Nat :=
  s.lif.orderQueue.length + s.lif.reports.length + (if s.lif.executing.isSome then 1 else 0)

/-- An order is accepted and joins the back of the order queue. -/
def joinQueue (o : Order) (s : State) : State := (answer handAccept s).modLif fun l => { l with orderQueue := l.orderQueue ++ [o] }

/-- A good ORDER frame of a kind that is queued (R173, R184). Dispatch comes before a slot that the yielding job left empty is offered on. -/
def acceptOrder (tag : Nat) (k : OrderKind) (s : State) : Act :=
  if 15 < tag ∨ tagInUse tag s then done (answer handRefused s)
  else if 4 ≤ s.lif.orderQueue.length ∨ 8 ≤ placesHeld s then done (answer handBusy s)
  else
    let a := requestYield (joinQueue { tag := tag, kind := k } s)
    { state := a.state, signals := .dispatch :: a.signals }

/-! ### Tables and settings (R178, R179) -/

/-- The image of a table, in frames (R79, R91, R121, R169). -/
def tableImage (id : Nat) (s : State) : List (List Byte) :=
  match id with
  | 1 => [profileBytes s.svc.profile]
  | 2 => [biasBytes s.svc]
  | 3 => [zoneBytes s.txe]
  | 4 => [monitorBytes s]
  | 5 => defectFrames s.txe.defects
  | 6 => [labelBytes s.txe]
  | _ => []

/-- LOAD_TABLE PROFILE reaches the SVC (R79). -/
def loadProfile (l : List Byte) (s : State) : Act :=
  if profileOk (profileOf l) then endOwned .done (s.modSvc fun v => { v with profile := profileOf l }) else endOwned .badParameter s

/-- LOAD_TABLE BIAS reaches the SVC (R91). -/
def loadBias (l : List Byte) (s : State) : Act :=
  if biasOk (biasOfImage l) then endOwned .done (s.modSvc fun v => { v with bias := biasOfImage l }) else endOwned .badParameter s

/-- Replace the zone table (R106). -/
def replaceZones (t : ZoneTable) (s : State) : State :=
  freeAll (forgetCartridge (s.modTxe fun x => { x with zones := t, capacity := capacityOf t, spareCount := spareCountOf t }))

/-- LOAD_TABLE ZONE reaches the TXE (R106). -/
def loadZones (l : List Byte) (s : State) : Act :=
  if s.csq.lifecycle ≠ .empty ∧ s.csq.lifecycle ≠ .stopped then endOwned .notReady s
  else if s.csq.lifecycle = .stopped ∧ (dirtyCount s ≠ 0 ∨ s.txe.labelModified) then endOwned .dirty s
  else if zoneTableOk (zoneTableOf l) then endOwned .done (replaceZones (zoneTableOf l) s)
  else endOwned .badParameter s

/-- LOAD_TABLE MONITOR reaches the SMN (R169); the order ends once the endings of the conditions have been taken. -/
def loadLimits (l : List Byte) (s : State) : Act :=
  match monitorOf l 5 with
  | some t => (loadMonitor t s).andThen (send (.orderDone .done))
  | none => endOwned .badParameter s

/-- The record with the serial number and name of a LABEL image (R117). -/
def namedRecord (l : List Byte) (t : Txe) : CartridgeRecord :=
  match t.record with
  | some r => { r with serial := fieldAt 0 4 l, name := slice 4 16 l }
  | none =>
      { signature := signature, formatId := t.zones.formatId, serial := fieldAt 0 4 l, name := slice 4 16 l, sequence := 0,
        defectCount := 0, checksum := 0 }

/-- LOAD_TABLE LABEL reaches the TXE (R117). -/
def loadLabel (l : List Byte) (s : State) : Act :=
  if s.csq.lifecycle = .empty then endOwned .noCartridge s
  else if s.csq.lifecycle ≠ .ready then endOwned .notReady s
  else if s.txe.labelStatus = .unread then endOwned .labelBad s
  else if s.csq.writeProtected then endOwned .writeProtected s
  else
    endOwned .done (s.modTxe fun t =>
      { t with record := some (namedRecord l t), labelModified := t.labelModified || t.labelStatus == .valid })

/-- The last frame of a LOAD_TABLE is taken: the image goes to the table's owner (R178). -/
def handOver (id : Nat) (s : State) : Act :=
  let l := s.lif.loadImage.headD []
  match id with
  | 1 => loadProfile l s
  | 2 => loadBias l s
  | 3 => loadZones l s
  | 4 => loadLimits l s
  | 5 => loadDefects s
  | 6 => loadLabel l s
  | _ => endPlain .badParameter s

/-- SET (R179); its own dispatch restarts the standby timer with the new delay (R14). -/
def setOrder (i : SettingsImage) (s : State) : Act :=
  if settingsOk i then endPlain .done (restartStandby (s.modLif fun l => { l with settings := settingsOf i }))
  else endPlain .badParameter s

/-! ### Dispatch (R177) -/

/-- The order that dispatch takes: in CALIBRATE the oldest that does not need the medium, else the oldest. -/
def dispatchable (s : State) : Option Order :=
  if s.csq.lifecycle = .calibrate then s.lif.orderQueue.find? fun o => !o.kind.needsMedium else s.lif.orderQueue.head?

/-- An executing order goes to its owner. -/
def route (k : OrderKind) (s : State) : Act :=
  match k with
  | .start => startOrder s
  | .stop => stopOrder s
  | .eject option => ejectOrder (option == 1) s
  | .removal option => removalOrder (option == 1) s
  | .seek _ _ | .read _ _ | .write _ _ | .flush | .reassign _ | .commitLabel _ | .calibrate => mediumOrder s
  | .loadTable _ _ => done (setStage .gathering s)
  | .readTable id => done ((setStage .offering s).modLif fun l => { l with readImage := tableImage id s, readIndex := 0 })
  | .set i => setOrder i s

/-- Check an order's enumerated parameters and hand it to its owner. -/
def beginOrder (o : Order) (s : State) : Act :=
  match parameterFault o.kind with
  | some d => endOrder .badParameter d 0 s
  | none => route o.kind s

/-- An order leaves the queue and becomes the executing order; the expected index is 0, the standby timer restarts. -/
def makeExecuting (o : Order) (s : State) : State :=
  restartStandby (s.modLif fun l =>
    { l with orderQueue := l.orderQueue.erase o, executing := some { order := o, remnant := false, stage := .dispatched, blocks := 0 },
             expectedIndex := match o.kind with
               | .write _ _ | .loadTable _ _ => 0
               | _ => l.expectedIndex })

/-- Dispatch the next order when none is executing. -/
def dispatchAct (s : State) : Act :=
  if s.lif.executing.isSome then done s
  else
    match dispatchable s with
    | none => done s
    | some o => beginOrder o (makeExecuting o s)

/-! ### Data frames from the host (R149, R174) -/

/-- The order has placed every one of its blocks in the window of block `n` (R150, R151). -/
def windowPlaced (n first count placed : Nat) : Bool := decide (count ≤ placed) || decide (windowBase n + 16 ≤ first + placed)

/-- A window has been filled: written back, its segment is released; written through, it is flushed (R150, R151). -/
def windowFilled (i : Nat) (s : State) : Act :=
  match s.txe.job with
  | some { kind := .order, work := .write true queue, flushing := f, .. } =>
      if f.isSome ∨ queue ≠ [] then done (modJob (fun j => { j with work := .write true (queue ++ [i]) }) s)
      else beginSegmentFlush i none s
  | _ => done (attach .free i s)

/-- A block of a WRITE has been taken into its place (R149 to R151): it leaves both sets at its first byte, by which flush wanted may be cleared (R154),
and joins them again. -/
def placeBlock (i n : Nat) (payload : List Byte) (s : State) : Act :=
  let s1 := makeRecent i (addDirty i n (dropBlock i n (storeBlock i n payload s)))
  let s2 := s1.modLif fun l => { l with expectedIndex := l.expectedIndex + 1 }
  let through := (jobWork s2).map fun w => match w with
    | .write t _ => t
    | _ => false
  let s3 := if through = some true then s2 else setBlocks s2.lif.expectedIndex s2
  let a := if windowPlaced n (transferRange s3).1 (transferRange s3).2 s3.lif.expectedIndex then windowFilled i s3 else done s3
  a.andThen fun s4 =>
    if through = some false ∧ (transferRange s4).2 ≤ s4.lif.expectedIndex then endOrderJob (goodOutcome s4) .noDetail [] s4 else done s4

/-- The place for a WRITE's block is asked for on the frame's header (R149): the segment, or none with the flush that FLUSH_FIRST starts. -/
def askPlace (n : Nat) (s : State) : Act × Option Nat :=
  match askSegment n .order false s with
  | (s1, .given i) => (done s1, some i)
  | (s1, .flushFirst i) => (if (s1.txe.job.map fun j => j.flushing.isSome) = some false then beginSegmentFlush i none s1 else done s1, none)
  | (s1, .wait) => (done s1, none)

/-- The WRITE that a frame's tag, length and index fit: its first block (R174, tests 1 to 3). -/
def fittingWrite (tag index len : Nat) (s : State) : Option Nat :=
  match s.lif.executing with
  | some { order := { tag := t, kind := .write first count }, remnant := false, .. } =>
      if t = tag ∧ len = 512 ∧ index = s.lif.expectedIndex ∧ index < count then some first else none
  | _ => none

/-- The LOAD_TABLE that a frame's tag, length and index fit: its table id and frame count (R174, tests 1 to 3). -/
def fittingLoad (tag index len : Nat) (s : State) : Option (Nat × Nat) :=
  match s.lif.executing with
  | some { order := { tag := t, kind := .loadTable id frames }, remnant := false, stage := .gathering, .. } =>
      if t = tag ∧ imageLength id = some len ∧ index = s.lif.expectedIndex ∧ index < frames then some (id, frames) else none
  | _ => none

/-- The executing order holds the job slot. -/
def executingInSlot (s : State) : Bool := (s.lif.executing.map fun e => e.stage) == some .inSlot

/-- A WRITE's data frame past tests 1 to 3 (R149, R174). -/
def writeFrame (n : Nat) (payload : List Byte) (s : State) : Act :=
  if executingInSlot s then
    match askPlace n s with
    | (a, some i) => a.andThen fun s1 => placeBlock i n payload (answer handAccept s1)
    | (a, none) => a.andThen fun s1 => done (answer handBusy s1)
  else done (answer handBusy s)

/-- A LOAD_TABLE's data frame past tests 1 to 3 (R174, R178). -/
def tableFrame (id frames : Nat) (payload : List Byte) (s : State) : Act :=
  let s1 := (answer handAccept s).modLif fun l =>
    { l with expectedIndex := l.expectedIndex + 1, loadImage := l.loadImage ++ [payload] }
  if frames ≤ s1.lif.expectedIndex then handOver id s1 else done s1

/-- A good DATA_OUT frame (R174). -/
def dataOutAct (tag index : Nat) (payload : List Byte) (s : State) : Act :=
  match fittingWrite tag index payload.length s with
  | some first => writeFrame (first + index) payload s
  | none =>
      match fittingLoad tag index payload.length s with
      | some l => tableFrame l.1 l.2 payload s
      | none => done (answer handRefused s)

/-- What had arrived of a DATA_OUT frame that never became good (R149, R172): its place was asked for, and with the first byte written the block
left both sets. -/
def partialAct (f : PartialFrame) (s : State) : Act :=
  match f with
  | .other => done s
  | .dataOut tag index len payload =>
      match fittingWrite tag index len s with
      | none => done s
      | some first =>
          if executingInSlot s then
            match askPlace (first + index) s with
            | (a, some i) =>
                a.andThen fun s1 => done (if payload = [] then s1 else dropBlock i (first + index) (storeBlock i (first + index) payload s1))
            | (a, none) => a
          else done s

/-- A frame for this drive fails its CRC check (R172). -/
def badFrameAct (f : PartialFrame) (s : State) : Act :=
  partialAct f (s.modLif fun l => { l with crcDiscards := satAdd 255 l.crcDiscards 1 })

/-! ### Polls (R175, R146) -/

/-- The ten bytes of a report (section 11.3). -/
def reportBytes (r : Report) : List Byte :=
  [byteOf r.kind.code, byteOf r.outcome.code] ++ be2 r.blocks ++ [byteOf r.detail.codes.1] ++ be4 r.detail.codes.2 ++ [byteOf r.lifecycle.code]

/-- The position of the next ready block of the executing READ, and its number (R146). Blocks are offered and counted up to the sector boundary at which
an ABORT ends the job, also those that the host takes after the ABORT (the model's choice, assumption 41). -/
def readyBlock (s : State) : Option (Nat × Nat) :=
  match s.lif.executing, jobWork s with
  | some { order := { kind := .read first count, .. }, remnant := false, stage := .inSlot, blocks := p }, some (.read _ _ _ failure) =>
      if p < count ∧ p < (match failure with | some f => f.limit | none => count) ∧ blockValid (first + p) s then some (p, first + p) else none
  | _, _ => none

/-- The executing order's tag. -/
def executingTag (s : State) : Nat :=
  match s.lif.executing with
  | some e => e.order.tag
  | none => 0

/-- The bytes of a block, wherever it is valid. -/
def blockBytes (n : Nat) (s : State) : List Byte :=
  match findWindow (windowBase n) s with
  | some i => loadBlock i n s
  | none => []

/-- The drive puts a frame on the cable. -/
def sendFrame (e : Exchange) (bytes : List Byte) (s : State) : State := s.modLif fun l => { l with exchange := e, cable := bytes }

/-- The drive's answer to a POLL (R175). A block's frame holds the link side of the buffer port from here until the host answers it or the exchange ends
in another way (R137; the model's choice, assumption 52). -/
def pollAct (s : State) : State :=
  let s0 := linkRelease s
  match s.lif.reports with
  | r :: _ => sendFrame .report (encodeFrame kindReport s.lif.driveAddress r.tag 0 (reportBytes r)) s0
  | [] =>
      match readyBlock s with
      | some (p, n) => sendFrame (.block p) (encodeFrame kindDataIn s.lif.driveAddress (executingTag s) p (blockBytes n s)) (linkTake s0)
      | none =>
          match s.lif.readImage[s.lif.readIndex]? with
          | some f => sendFrame .image (encodeFrame kindDataIn s.lif.driveAddress (executingTag s) s.lif.readIndex f) s0
          | none => sendFrame .idle (encodeFrame kindIdle s.lif.driveAddress 0 0 []) s0

/-- The order has delivered every one of its blocks in the window of the block at position `p` (R146). -/
def windowDelivered (p first count : Nat) : Bool := decide (count ≤ p + 1) || (first + p + 1) % 16 == 0

/-- A DATA_IN frame of a READ is taken (R146): the block is delivered, and a segment with nothing more to deliver is released. -/
def deliver (p : Nat) (s : State) : Act :=
  match s.lif.executing with
  | some { order := { kind := .read first count, .. }, remnant := false, stage := .inSlot, .. } =>
      let s1 := setBlocks (p + 1) s
      let s2 := match windowDelivered p first count, findWindow (windowBase (first + p)) s1 with
        | true, some i => makeStale i (attach .free i s1)
        | _, _ => s1
      finishRead s2
  | _ => done s

/-- A frame of a table image is taken (R178). -/
def imageTaken (s : State) : Act :=
  let s1 := s.modLif fun l => { l with readIndex := l.readIndex + 1 }
  if s1.lif.readImage.length ≤ s1.lif.readIndex then endOwned .done s1 else done s1

/-- The host's handshake to the frame the drive sent (R175), at which the link side gives up the buffer port (the model's choice, assumption 52). -/
def handshakeAct (accept : Bool) (s : State) : Act :=
  let s1 := (linkRelease s).modLif fun l => { l with exchange := .noFrame }
  if accept then
    match s.lif.exchange with
    | .noFrame | .idle | .spoiled => done s1
    | .report => done (s1.modLif fun l => { l with reports := l.reports.tail })
    | .block p => deliver p s1
    | .image => imageTaken s1
    | .status x => done (applyClear x s1)
  else done s1

/-! ### Parity on the link side (R158, R175) -/

/-- A CRC that does not match (assumption 5). -/
def spoil (crc : Word16) : Word16 := crc ^^^ (if Config.spoilMask = 0 then 1 else Config.spoilMask)

/-- The bytes of a DATA_IN frame spoiled at a byte (R158, R175): the header, the payload before that byte, which itself is not sent (the model's choice,
assumption 54), and a CRC that does not match. -/
def spoiledFrame (address tag p at_ : Nat) (data : List Byte) : List Byte :=
  let sent := (frameBody kindDataIn address tag p data).take (6 + at_)
  sent ++ be2 (spoil (crc16 sent)).toNat

/-- A READ's job is to read a block again (R158). -/
def Job.readAgain (p : Nat) (j : Job) : Job :=
  match j.work with
  | .read next medium again failure => { j with work := .read next medium (if again.contains p then again else again ++ [p]) failure }
  | _ => j

/-- The sector operation in work is set aside, to go on after the block that is read again (assumption 20). -/
def setAside (s : State) : State :=
  match s.txe.op with
  | none => s
  | some o => modJob (fun j => { j with suspended := some o }) (clearOp s)

/-- A block to read again is turned to at the sector boundary, unless a segment's flush is under way (R158). -/
def turnToAgain (s : State) : Act :=
  if atBoundary s ∧ (s.txe.job.map fun j => j.flushing.isSome) = some false then boundary nextSector (setAside s) else done s

/-- A parity error in the DATA_IN frame being sent (R158). -/
def linkParityAct (at_ : Nat) (s : State) : Act :=
  match s.lif.exchange, s.lif.executing with
  | .block p, some { order := { tag := t, kind := .read first _ }, remnant := false, stage := .inSlot, .. } =>
      match findWindow (windowBase (first + p)) s with
      | none => done s
      | some i =>
          let n := first + p
          let s1 := sendFrame .spoiled (spoiledFrame s.lif.driveAddress t p at_ (loadBlock i n s)) (linkRelease s)
          if (segmentAt s i).dirty.contains (n % 16) then failRead { outcome := .dataError, detail := .block n, limit := p } (loseBlock i n s1)
          else turnToAgain (modJob (Job.readAgain p) (dropBlock i n s1))
  | _, _ => done s

/-- A parity error (R158). -/
def parityAct (side : PortSide) (at_ : Nat) (s : State) : Act :=
  match side with
  | .link => linkParityAct at_ s
  | .media => mediaParityAct s

/-! ### Status (R180, R186) -/

/-- The flags byte of a STATUS_REPORT; bits 5 to 7 are 0 (the model's choice, assumption 47). -/
def statusFlags (s : State) : Nat :=
  flagBit s.csq.faultHold 0 + flagBit s.csq.removalPrevented 1 + flagBit s.txe.labelModified 2 + flagBit s.spc.speedLock 3 +
    flagBit (writeHold s) 4

/-- Bytes 31 and 32 of a STATUS_REPORT: the executing order's tag and kind code; of an untagged remnant the kind code of the order it came from (the
model's choice, assumption 25). -/
def executingBytes (s : State) : List Byte :=
  match s.lif.executing with
  | some e => [byteOf (if e.remnant then 254 else e.order.tag), byteOf e.order.kind.code]
  | none => [byteOf 255, byteOf 0]

/-- The 36 bytes of a STATUS_REPORT (section 11.3). -/
def statusBytes (result : Option AbortResult) (removed : Nat) (s : State) : List Byte :=
  [byteOf s.csq.lifecycle.code, byteOf s.csq.stopReason.code, byteOf (statusFlags s), byteOf s.txe.labelStatus.code,
    byteOf s.svc.mode.code, byteOf (dirtyCount s)] ++ be2 s.lif.notices.toNat ++ (channels.map fun c => byteOf (channel s c).latest) ++
    be2 (faultFlags s) ++ [byteOf s.lif.crcDiscards] ++ be2 s.txe.retryCounter ++ be2 s.txe.missedRevolutions ++
    be2 s.svc.pos.totalMissed ++ be2 s.svc.seekErrors ++ be2 s.sgc.lostBlocks ++ be4 (s.sgc.lastLost.getD 4294967295) ++
    [byteOf s.lif.orderQueue.length] ++ executingBytes s ++
    [byteOf s.lif.reports.length, byteOf (abortCode result), byteOf removed]

/-- The answer to an immediate order: ACCEPT, and directly after it the STATUS_REPORT (R173). -/
def statusReportAct (tag : Nat) (result : Option AbortResult) (removed : Nat) (x : ClearSet) (s : State) : State :=
  sendFrame (.status x) (handAccept :: encodeFrame kindStatusReport s.lif.driveAddress tag 0 (statusBytes result removed s)) s

/-- A clear set that names nothing: what ABORT and RESET carry. -/
def noClear : ClearSet := { notices := 0, faults := 0, counters := 0 }

/-- An immediate order is carried out and then answered; a tag above 15 is refused by the header check (R184). -/
def immediate (tag : Nat) (f : State → Act) (s : State) : Act :=
  if 15 < tag then done (answer handRefused s) else f (answer handAccept s)

/-- STATUS (R180). -/
def statusAct (tag : Nat) (x : ClearSet) (s : State) : Act := send (.statusReport tag none 0 x) s

/-! ### Abort (R181) -/

/-- A label write whose first sector write has begun, at the opening of the gate for its first sector: ABORT goes by this (R119, assumption 43). -/
def labelBegun (s : State) : Bool :=
  match jobWork s with
  | some (.label _ begun) => begun
  | _ => false

/-- ABORT of the order in the slot: it ends at its next sector boundary (R126), unless its label write has begun. -/
def abortInSlot (s : State) : Act × AbortResult :=
  if labelBegun s then (done s, .notAbortable)
  else (boundary done (s.modTxe fun t => { t with endPending := .abort }), .ending)

/-- ABORT of the executing order, as its owner decides (R181). -/
def abortExecuting (e : Executing) (s : State) : Act × AbortResult :=
  match e.order.kind with
  | .start | .stop => (done s, .notAbortable)
  | .eject _ => if s.csq.lifecycle = .eject ∧ s.csq.ejectRound = .retry then (stopRetryRound s, .ending) else (done s, .notAbortable)
  | _ =>
      match e.stage with
      | .inSlot => abortInSlot s
      | .waitPass | .departing => (done s, .notAbortable)
      | .dispatched | .waitStart | .gathering | .offering => (endPlain .aborted s, .ending)
      | .waitSlot => (endPlain .aborted (s.modTxe fun t => { t with orderWaits := false }), .ending)

/-- The ABORTED report of an order removed from the queue (R181): its detail is none for a SEEK and a REASSIGN too, whose own rules name one for every
report (R139, R111; the model's choice, assumption 50). -/
def removedReport (s : State) (o : Order) : Report :=
  { tag := o.tag, kind := o.kind, outcome := .aborted, blocks := 0, detail := .noDetail, lifecycle := s.csq.lifecycle }

/-- The executing order, unless it is a remnant. -/
def liveExecuting (s : State) : Option Executing := s.lif.executing.filter fun e => !e.remnant

/-- ABORT of one tag (R181); the report of an order removed from the queue is its completion, which starts the flush-delay timer (R154, R171). -/
def abortTag (tag victim : Nat) (s : State) : Act :=
  match s.lif.orderQueue.find? (fun o => o.tag == victim), (liveExecuting s).filter (fun e => e.order.tag == victim) with
  | some o, _ =>
      send (.statusReport tag (some .removed) 1 noClear)
        (startFlushTimer (s.modLif fun l => { l with orderQueue := l.orderQueue.erase o, reports := l.reports ++ [removedReport s o] }))
  | none, some e =>
      let r := abortExecuting e s
      r.1.andThen (send (.statusReport tag (some r.2) 0 noClear))
  | none, none =>
      let result := if s.lif.reports.any (fun r => r.tag == victim) then AbortResult.completed else .unknown
      send (.statusReport tag (some result) 0 noClear) s

/-- Every queued order is removed, in queue order (R181); each report is an order's completion, which starts the flush-delay timer (R154, R171). -/
def removeQueued (s : State) : State :=
  let s1 := s.modLif fun l => { l with orderQueue := [], reports := l.reports ++ l.orderQueue.map (removedReport s) }
  if s.lif.orderQueue.isEmpty then s1 else startFlushTimer s1

/-- ABORT all (R181): the executing order, and then every queued order. -/
def abortEvery (tag : Nat) (s : State) : Act :=
  let n := s.lif.orderQueue.length
  match liveExecuting s with
  | some e =>
      let r := abortExecuting e s
      r.1.andThen fun s1 => send (.statusReport tag (some r.2) n noClear) (removeQueued s1)
  | none => send (.statusReport tag none n noClear) (removeQueued s)

/-! ### Link reset (R3, R182) -/

/-- The executing order loses its tag. -/
def makeRemnant (s : State) : State :=
  s.modLif fun l => { l with executing := l.executing.map fun e => { e with remnant := true } }

/-- A label write holds the slot (R118, R126). -/
def labelWriting (s : State) : Bool :=
  match jobWork s with
  | some (.label _ _) => true
  | _ => false

/-- A STOP or EJECT order that waits for a start is carried on by the CSQ without its tag (R3); an EJECT covers a STOP. -/
def carry (k : OrderKind) (s : State) : State :=
  s.modCsq fun c => { c with carried := match k with
    | .stop => if c.carried = some .eject then some .eject else some .stop
    | .eject _ => some .eject
    | _ => c.carried }

/-- The executing order is ended at once without a report (R182); the ORDER request of one that waits for the slot leaves the waiting requests with it
(the model's choice, assumption 48). -/
def dropExecuting (s : State) : State :=
  (s.modLif fun l => { l with executing := none, loadImage := [], readImage := [], readIndex := 0 }).modTxe fun t => { t with orderWaits := false }

/-- What a link reset makes of the executing order (R3, R103, R126, R182). A label write counts as begun once its job holds the slot (assumption 43), and a
CALIBRATE order that has proceeded as a remnant until its pass ends (assumption 42). -/
def resetExecuting (s : State) : Act :=
  match s.lif.executing with
  | none => done s
  | some e =>
      match e.stage with
      | .inSlot =>
          if labelWriting s then done (makeRemnant s)
          else boundary done ((makeRemnant s).modTxe fun t => { t with endPending := .linkReset })
      | .waitPass => done (makeRemnant s)
      | .waitStart => done (dropExecuting (carry e.order.kind s))
      | .dispatched | .waitSlot | .departing | .gathering | .offering => done (dropExecuting s)

/-- The link reset (R3, R182), with the frame it cut off (R172). -/
def linkResetAct (cut : PartialFrame) (s : State) : Act :=
  ((partialAct cut s).andThen fun s1 =>
    done (((linkRelease s1).modLif fun l =>
      { l with orderQueue := [], reports := [], expectedIndex := 0, exchange := .noFrame, cable := [] }).modCsq fun c =>
      { c with causes := { c.causes with stopOrder := false, ejectOrder := false } })).andThen resetExecuting

/-- RESET (R182). -/
def resetAct (tag : Nat) (s : State) : Act := (linkResetAct .other s).andThen (send (.statusReport tag none 0 noClear))

/-- A good frame that the header or kind checks refuse (R173, R184). -/
def refusedFrame (s : State) : State := answer handRefused s

end Sys2Proof.Machine
end

