-- ==== Sys2Proof/Machine/Router.lean ====
section
/-! DEFINITION. What each message does at the block it is sent to, and the running of one event to its end: every message that an event gives rise
to is taken within that event (section "Block overview"; 95_what_each_step_holds.md). -/

namespace Sys2Proof.Machine

/-- The slot has become empty (R124): a waiting order, a waiting departure flush, or calibration due. -/
def slotFreeAct (s : State) : Act :=
  if s.txe.job.isNone ∧ (s.csq.lifecycle = .ready ∨ s.csq.lifecycle = .flush) then
    if s.txe.orderWaits then takeWaiting s
    else if s.txe.departureWaits then takeDeparture s
    else calibrationCheck s
  else done s

/-- An order has ended (R154, R177). -/
def orderEndedAct (s : State) : Act := send .dispatch (startFlushTimer s)

/-- What the receiver of a message does. -/
def handle (g : Signal) (s : State) : Act :=
  match g with
  | .spinUpComplete => spinUpCompleteAct s
  | .spinUpFailed => spinUpFailedAct s
  | .lockLost => lockLostAct s
  | .lockRegained => done (lockRegainedAct s)
  | .stopConfirmed => stopConfirmedAct s
  | .rotationPersists => rotationPersistsAct s
  | .onTrack .transfer => transferOnTrack s
  | .onTrack .calibration => passOnTrack s
  | .onTrack .load | .onTrack .nobody => done s
  | .seekError .transfer => transferSeekError s
  | .seekError .calibration => passSeekError s
  | .seekError .load | .seekError .nobody => done s
  | .followReached => followReachedAct s
  | .parked c => parkedAct c s
  | .calibrationDue => calibrationCheck s
  | .passEnded => passEndedAct s
  | .labelReadEnded => labelReadEndedAct s
  | .flushComplete => flushCompleteAct s
  | .flushFailed d => flushFailedAct d s
  | .flushHeld => flushHeldAct s
  | .park => parkAct s
  | .retract => retractAct s
  | .gateCheck => done (spinGateCheck s)
  | .slotFree => slotFreeAct s
  | .slotIdle => requestBackground s
  | .readAhead first count => startReadAhead first count s
  | .orderEnded => orderEndedAct s
  | .dispatch => dispatchAct s
  | .readyEntered eject => readyEnteredAct eject s
  | .orderDone o => endOwned o s
  | .flushResumed => flushResumedAct s
  | .statusReport tag result removed x => done (statusReportAct tag result removed x s)

/-- Take the messages of an event, each with what it gives rise to before the next. -/
def drain : Nat → List Signal → State → State
  | 0, _, s => s
  | _ + 1, [], s => s
  | n + 1, g :: t, s => drain n ((handle g s).signals ++ t) (handle g s).state

/-- How many messages one event may take; no event of the manual comes near it (assumption 8). -/
def messageLimit : Nat := 200

/-- An event run to its end, with the outputs that follow from its result. -/
def settle (a : Act) : State := finish (drain messageLimit a.signals a.state)

/-- The outcome of a command. -/
def run (a : Act) : Host.Outcome State Fault Refusal := .next (settle a)

end Sys2Proof.Machine
end

