-- ==== Sys2Proof/Machine/Events.lean ====
section
/-! DEFINITION. The meanings of the events: resets, sensors, solenoids, timers, spindle pulses, servo samples, sector marks and fields, parity
errors and monitor readings. Each runs its whole event (95_what_each_step_holds.md). -/

namespace Sys2Proof.Machine

/-! ### Resets -/

/-- Every block at its power-on values, with what the sensors and straps read (R1, R171). -/
def powerOnState (present tab : Bool) (straps : Nat) (s : State) : State :=
  { State.reset with lif := resetLif straps, pins := { present := present, tab := tab, straps := straps }, pending := s.pending }

/-- A cartridge is in the drive at power-on reset (R2): locked, and to be braked to a confirmed stop. -/
def lockAtReset (tab : Bool) (s : State) : State :=
  s.modCsq fun c => { c with lifecycle := .spinDown, lockEngaged := true, writeProtected := tab, insertedDue := true }

/-- POWER_ON_RESET (R1, R2). -/
def execPowerOnReset (present tab : Bool) (straps : Nat) (s : State) : Host.Outcome State Fault Refusal :=
  let s1 := powerOnState present tab straps s
  run (if present then spindleBrake (lockAtReset tab s1) else done s1)

/-- LINK_RESET_LINE (R3, R182). -/
def execLinkResetLine (cut : PartialFrame) (s : State) : Host.Outcome State Fault Refusal := run (linkResetAct cut s)

/-! ### Sensors and solenoids -/

/-- PRESENCE_CHANGE (R4). -/
def execPresenceChange (present : Bool) (s : State) : Host.Outcome State Fault Refusal := run (presenceAct present s)

/-- SEATING_DEBOUNCE_EXPIRY (R4, R5). -/
def execSeatingDebounceExpiry (tab : Bool) (s : State) : Host.Outcome State Fault Refusal := run (debounceAct tab s)

/-- EJECT_BUTTON_PRESS (R6). -/
def execEjectButtonPress (s : State) : Host.Outcome State Fault Refusal := run (buttonAct s)

/-- EJECT_BUTTON_RELEASE (R6): another press can be taken. -/
def execEjectButtonRelease (s : State) : Host.Outcome State Fault Refusal :=
  run (done (s.modCsq fun c => { c with buttonReady := true }))

/-- EJECT_PULSE_END (R8). -/
def execEjectPulseEnd (s : State) : Host.Outcome State Fault Refusal := run (done (pulseEndAct s))

/-- EJECT_CHECK_EXPIRY (R18). -/
def execEjectCheckExpiry (s : State) : Host.Outcome State Fault Refusal := run (ejectCheckAct s)

/-- STANDBY_TIMER_EXPIRY (R14). -/
def execStandbyTimerExpiry (s : State) : Host.Outcome State Fault Refusal := run (standbyAct s)

/-- GRACE_TIMER_EXPIRY (R22). -/
def execGraceTimerExpiry (s : State) : Host.Outcome State Fault Refusal := run (graceAct s)

/-! ### The spindle -/

/-- SPIN_UP_TIMER_EXPIRY (R34). -/
def execSpinUpTimerExpiry (s : State) : Host.Outcome State Fault Refusal := run (spinUpTimerAct s)

/-- INDEX_PULSE (R37, R46). -/
def execIndexPulse (s : State) : Host.Outcome State Fault Refusal := run (indexPulseAct s)

/-- COMMUTATION_PULSE (R40, R42). -/
def execCommutationPulse (s : State) : Host.Outcome State Fault Refusal := run (commutationAct s)

/-- TIME_BASE_OVERFLOW (R36). -/
def execTimeBaseOverflow (s : State) : Host.Outcome State Fault Refusal := run (overflowAct s)

/-- BRAKE_STEP_EXPIRY (R45). -/
def execBrakeStepExpiry (s : State) : Host.Outcome State Fault Refusal := run (brakeStepAct s)

/-- CHECK_WAIT_EXPIRY (R48). -/
def execCheckWaitExpiry (s : State) : Host.Outcome State Fault Refusal := run (checkWaitAct s)

/-! ### The servo -/

/-- SERVO_SAMPLE (R51, R64): the sample, and what the TXE sees of it. -/
def execServoSample (r : ServoRecord) (s : State) : Host.Outcome State Fault Refusal :=
  run ((servoSampleAct r s).andThen mediaWatch)

/-- LOAD_LIMIT_REACHED (R69). -/
def execLoadLimitReached (s : State) : Host.Outcome State Fault Refusal :=
  run (done (if s.svc.mode = .loading then loadLimitAct s else s))

/-- SEEK_TIMEOUT (R87). -/
def execSeekTimeout (s : State) : Host.Outcome State Fault Refusal :=
  run (if s.svc.seekStatus = .outstanding ∧ (s.svc.mode = .seek ∨ s.svc.mode = .settle) then timeoutAct s else done s)

/-- The eighth consecutive missed sample has been counted (R61). -/
def eighthMissed (s : State) : State := s.modSvc fun v => { v with pos := { v.pos with missed := 8 } }

/-- LOST_CONDITION (R61, R72). -/
def execLostCondition (s : State) : Host.Outcome State Fault Refusal :=
  run (if s.svc.mode = .seek ∨ s.svc.mode = .settle ∨ s.svc.mode = .follow then
      (servoLost (eighthMissed s)).andThen mediaWatch
    else done s)

/-- RETRACT_TIMER_EXPIRY (R73). -/
def execRetractTimerExpiry (s : State) : Host.Outcome State Fault Refusal := run (retractTimerAct s)

/-! ### The medium -/

/-- SECTOR_MARK (R129). -/
def execSectorMark (h : SectorHeader) (s : State) : Host.Outcome State Fault Refusal := run (sectorMarkAct h s)

/-- READ_FIELD_END (R130). -/
def execReadFieldEnd (data : List Byte) (good : Bool) (s : State) : Host.Outcome State Fault Refusal := run (readFieldAct data good s)

/-- WRITE_FIELD_END (R131). -/
def execWriteFieldEnd (s : State) : Host.Outcome State Fault Refusal := run (writeFieldAct s)

/-- PARITY_ERROR (R158). -/
def execParityError (side : PortSide) (at_ : Nat) (s : State) : Host.Outcome State Fault Refusal := run (parityAct side at_ s)

/-- HOLD_WAIT_EXPIRY (R133). -/
def execHoldWaitExpiry (s : State) : Host.Outcome State Fault Refusal := run (holdWaitAct s)

/-- The flush-delay timer runs out (R154). -/
def flushDelayAct (s : State) : Act :=
  if s.sgc.flushTimer.isSome then
    requestBackground (s.modSgc fun g => { g with flushTimer := none, flushWanted := g.flushWanted || decide (dirtyCount s ≠ 0) })
  else done s

/-- FLUSH_DELAY_EXPIRY (R154). -/
def execFlushDelayExpiry (s : State) : Host.Outcome State Fault Refusal := run (flushDelayAct s)

/-! ### The monitor -/

/-- MONITOR_READING (R159). -/
def execMonitorReading (reading : Nat) (s : State) : Host.Outcome State Fault Refusal := run (monitorReadingAct reading s)

end Sys2Proof.Machine
end

