-- ==== Sys2Proof/Machine/Frames.lean ====
section
/-! DEFINITION. The meanings of the frames of the host: orders that are queued (R173), immediate orders (R180 to R182), data frames (R174), polls and
handshakes (R175), frames refused or discarded (R172, R173). An order's own effect follows within the same event when it is dispatched at
once (R177). -/

namespace Sys2Proof.Machine

/-! ### Orders that are queued -/

/-- START (R26): accepted, and dispatched in its turn. -/
def execStart (tag : Nat) (s : State) : Host.Outcome State Fault Refusal := run (acceptOrder tag .start s)

/-- STOP (R27): accepted, and dispatched in its turn. -/
def execStop (tag : Nat) (s : State) : Host.Outcome State Fault Refusal := run (acceptOrder tag .stop s)

/-- EJECT (R28): accepted, and dispatched in its turn. -/
def execEject (tag option : Nat) (s : State) : Host.Outcome State Fault Refusal := run (acceptOrder tag (.eject option) s)

/-- EJECT with DISCARD (R157): accepted, and dispatched in its turn. -/
def execEjectDiscard (tag : Nat) (s : State) : Host.Outcome State Fault Refusal := run (acceptOrder tag (.eject 1) s)

/-- REMOVAL, prevent (R29): accepted, and dispatched in its turn. -/
def execRemovalPrevent (tag option : Nat) (s : State) : Host.Outcome State Fault Refusal := run (acceptOrder tag (.removal option) s)

/-- REMOVAL, allow (R29): accepted, and dispatched in its turn. -/
def execRemovalAllow (tag : Nat) (s : State) : Host.Outcome State Fault Refusal := run (acceptOrder tag (.removal 2) s)

/-- SEEK (R139): accepted, and dispatched in its turn. -/
def execSeek (tag cylinder head : Nat) (s : State) : Host.Outcome State Fault Refusal := run (acceptOrder tag (.seek cylinder head) s)

/-- READ (R138, R144): accepted, and dispatched in its turn. -/
def execRead (tag first count : Nat) (s : State) : Host.Outcome State Fault Refusal := run (acceptOrder tag (.read first count) s)

/-- WRITE (R138, R149): accepted, and dispatched in its turn. -/
def execWrite (tag first count : Nat) (s : State) : Host.Outcome State Fault Refusal := run (acceptOrder tag (.write first count) s)

/-- FLUSH (R155): accepted, and dispatched in its turn. -/
def execFlush (tag : Nat) (s : State) : Host.Outcome State Fault Refusal := run (acceptOrder tag .flush s)

/-- REASSIGN (R111): accepted, and dispatched in its turn. -/
def execReassign (tag block : Nat) (s : State) : Host.Outcome State Fault Refusal := run (acceptOrder tag (.reassign block) s)

/-- COMMIT_LABEL (R119): accepted, and dispatched in its turn. -/
def execCommitLabel (tag option : Nat) (s : State) : Host.Outcome State Fault Refusal := run (acceptOrder tag (.commitLabel option) s)

/-- CALIBRATE (R101): accepted, and dispatched in its turn. -/
def execCalibrate (tag : Nat) (s : State) : Host.Outcome State Fault Refusal := run (acceptOrder tag .calibrate s)

/-- LOAD_TABLE PROFILE (R79): accepted, and dispatched in its turn. -/
def execLoadTableProfile (tag id frames : Nat) (s : State) : Host.Outcome State Fault Refusal := run (acceptOrder tag (.loadTable id frames) s)

/-- LOAD_TABLE BIAS (R91): accepted, and dispatched in its turn. -/
def execLoadTableBias (tag frames : Nat) (s : State) : Host.Outcome State Fault Refusal := run (acceptOrder tag (.loadTable 2 frames) s)

/-- LOAD_TABLE ZONE (R106): accepted, and dispatched in its turn. -/
def execLoadTableZone (tag frames : Nat) (s : State) : Host.Outcome State Fault Refusal := run (acceptOrder tag (.loadTable 3 frames) s)

/-- LOAD_TABLE MONITOR (R169): accepted, and dispatched in its turn. -/
def execLoadTableMonitor (tag frames : Nat) (s : State) : Host.Outcome State Fault Refusal := run (acceptOrder tag (.loadTable 4 frames) s)

/-- LOAD_TABLE DEFECT (R110): accepted, and dispatched in its turn. -/
def execLoadTableDefect (tag frames : Nat) (s : State) : Host.Outcome State Fault Refusal := run (acceptOrder tag (.loadTable 5 frames) s)

/-- LOAD_TABLE LABEL (R117): accepted, and dispatched in its turn. -/
def execLoadTableLabel (tag frames : Nat) (s : State) : Host.Outcome State Fault Refusal := run (acceptOrder tag (.loadTable 6 frames) s)

/-- READ_TABLE PROFILE (R79): accepted, and dispatched in its turn. -/
def execReadTableProfile (tag id : Nat) (s : State) : Host.Outcome State Fault Refusal := run (acceptOrder tag (.readTable id) s)

/-- READ_TABLE BIAS (R91): accepted, and dispatched in its turn. -/
def execReadTableBias (tag : Nat) (s : State) : Host.Outcome State Fault Refusal := run (acceptOrder tag (.readTable 2) s)

/-- READ_TABLE ZONE (R121): accepted, and dispatched in its turn. -/
def execReadTableZone (tag : Nat) (s : State) : Host.Outcome State Fault Refusal := run (acceptOrder tag (.readTable 3) s)

/-- READ_TABLE MONITOR (R169): accepted, and dispatched in its turn. -/
def execReadTableMonitor (tag : Nat) (s : State) : Host.Outcome State Fault Refusal := run (acceptOrder tag (.readTable 4) s)

/-- READ_TABLE DEFECT (R121): accepted, and dispatched in its turn. -/
def execReadTableDefect (tag : Nat) (s : State) : Host.Outcome State Fault Refusal := run (acceptOrder tag (.readTable 5) s)

/-- READ_TABLE LABEL (R121): accepted, and dispatched in its turn. -/
def execReadTableLabel (tag : Nat) (s : State) : Host.Outcome State Fault Refusal := run (acceptOrder tag (.readTable 6) s)

/-- SET (R179): accepted, and dispatched in its turn. -/
def execSet (tag : Nat) (image : SettingsImage) (s : State) : Host.Outcome State Fault Refusal := run (acceptOrder tag (.set image) s)

/-! ### Immediate orders -/

/-- STATUS (R180). -/
def execStatus (tag : Nat) (clear : ClearSet) (s : State) : Host.Outcome State Fault Refusal := run (immediate tag (statusAct tag clear) s)

/-- ABORT of one tag (R181). -/
def execAbort (tag victim : Nat) (s : State) : Host.Outcome State Fault Refusal := run (immediate tag (abortTag tag victim) s)

/-- ABORT all (R181). -/
def execAbortAll (tag : Nat) (s : State) : Host.Outcome State Fault Refusal := run (immediate tag (abortEvery tag) s)

/-- RESET (R182). -/
def execReset (tag : Nat) (s : State) : Host.Outcome State Fault Refusal := run (immediate tag (resetAct tag) s)

/-! ### Other frames -/

/-- POLL_FRAME (R175). -/
def execPollFrame (s : State) : Host.Outcome State Fault Refusal := run (done (pollAct s))

/-- HOST_HANDSHAKE (R175). -/
def execHostHandshake (accept : Bool) (s : State) : Host.Outcome State Fault Refusal := run (handshakeAct accept s)

/-- DATA_OUT_FRAME (R174). -/
def execDataOutFrame (tag index : Nat) (payload : List Byte) (s : State) : Host.Outcome State Fault Refusal :=
  run (dataOutAct tag index payload s)

/-- UNKNOWN_ORDER_KIND (R173, R184). -/
def execUnknownOrderKind (s : State) : Host.Outcome State Fault Refusal := run (done (refusedFrame s))

/-- FRAME_DISCARDED_BAD_CRC (R172). -/
def execFrameDiscardedBadCrc (frame : PartialFrame) (s : State) : Host.Outcome State Fault Refusal := run (badFrameAct frame s)

end Sys2Proof.Machine
end

