-- ==== Sys2Proof/Machine/Dispatch.lean ====
section
/-! DEFINITION. One arm per command, each a direct call of its meaning. -/

namespace Sys2Proof.Machine

/-- The effect of a command on everything but the queue. -/
def exec (i : Instr) (s : State) : Host.Outcome State Fault Refusal :=
  match i with
  | .powerOnReset present tab straps => Sys2Proof.Machine.execPowerOnReset present tab straps s
  | .linkResetLine cut => Sys2Proof.Machine.execLinkResetLine cut s
  | .presenceChange present => Sys2Proof.Machine.execPresenceChange present s
  | .seatingDebounceExpiry tab => Sys2Proof.Machine.execSeatingDebounceExpiry tab s
  | .ejectButtonPress => Sys2Proof.Machine.execEjectButtonPress s
  | .ejectPulseEnd => Sys2Proof.Machine.execEjectPulseEnd s
  | .ejectCheckExpiry => Sys2Proof.Machine.execEjectCheckExpiry s
  | .standbyTimerExpiry => Sys2Proof.Machine.execStandbyTimerExpiry s
  | .graceTimerExpiry => Sys2Proof.Machine.execGraceTimerExpiry s
  | .spinUpTimerExpiry => Sys2Proof.Machine.execSpinUpTimerExpiry s
  | .indexPulse => Sys2Proof.Machine.execIndexPulse s
  | .commutationPulse => Sys2Proof.Machine.execCommutationPulse s
  | .timeBaseOverflow => Sys2Proof.Machine.execTimeBaseOverflow s
  | .brakeStepExpiry => Sys2Proof.Machine.execBrakeStepExpiry s
  | .checkWaitExpiry => Sys2Proof.Machine.execCheckWaitExpiry s
  | .servoSample r => Sys2Proof.Machine.execServoSample r s
  | .loadLimitReached => Sys2Proof.Machine.execLoadLimitReached s
  | .seekTimeout => Sys2Proof.Machine.execSeekTimeout s
  | .lostCondition => Sys2Proof.Machine.execLostCondition s
  | .retractTimerExpiry => Sys2Proof.Machine.execRetractTimerExpiry s
  | .sectorMark h => Sys2Proof.Machine.execSectorMark h s
  | .readFieldEnd data good => Sys2Proof.Machine.execReadFieldEnd data good s
  | .writeFieldEnd => Sys2Proof.Machine.execWriteFieldEnd s
  | .parityError side at_ => Sys2Proof.Machine.execParityError side at_ s
  | .holdWaitExpiry => Sys2Proof.Machine.execHoldWaitExpiry s
  | .flushDelayExpiry => Sys2Proof.Machine.execFlushDelayExpiry s
  | .monitorReading reading => Sys2Proof.Machine.execMonitorReading reading s
  | .pollFrame => Sys2Proof.Machine.execPollFrame s
  | .hostHandshake accept => Sys2Proof.Machine.execHostHandshake accept s
  | .dataOutFrame tag index payload => Sys2Proof.Machine.execDataOutFrame tag index payload s
  | .unknownOrderKind => Sys2Proof.Machine.execUnknownOrderKind s
  | .start tag => Sys2Proof.Machine.execStart tag s
  | .stop tag => Sys2Proof.Machine.execStop tag s
  | .eject tag option => Sys2Proof.Machine.execEject tag option s
  | .ejectDiscard tag => Sys2Proof.Machine.execEjectDiscard tag s
  | .removalPrevent tag option => Sys2Proof.Machine.execRemovalPrevent tag option s
  | .removalAllow tag => Sys2Proof.Machine.execRemovalAllow tag s
  | .seek tag cylinder head => Sys2Proof.Machine.execSeek tag cylinder head s
  | .read tag first count => Sys2Proof.Machine.execRead tag first count s
  | .write tag first count => Sys2Proof.Machine.execWrite tag first count s
  | .flush tag => Sys2Proof.Machine.execFlush tag s
  | .reassign tag block => Sys2Proof.Machine.execReassign tag block s
  | .commitLabel tag option => Sys2Proof.Machine.execCommitLabel tag option s
  | .calibrate tag => Sys2Proof.Machine.execCalibrate tag s
  | .loadTableProfile tag id frames => Sys2Proof.Machine.execLoadTableProfile tag id frames s
  | .loadTableBias tag frames => Sys2Proof.Machine.execLoadTableBias tag frames s
  | .loadTableZone tag frames => Sys2Proof.Machine.execLoadTableZone tag frames s
  | .loadTableDefect tag frames => Sys2Proof.Machine.execLoadTableDefect tag frames s
  | .loadTableLabel tag frames => Sys2Proof.Machine.execLoadTableLabel tag frames s
  | .loadTableMonitor tag frames => Sys2Proof.Machine.execLoadTableMonitor tag frames s
  | .readTableProfile tag id => Sys2Proof.Machine.execReadTableProfile tag id s
  | .readTableBias tag => Sys2Proof.Machine.execReadTableBias tag s
  | .readTableZone tag => Sys2Proof.Machine.execReadTableZone tag s
  | .readTableDefect tag => Sys2Proof.Machine.execReadTableDefect tag s
  | .readTableLabel tag => Sys2Proof.Machine.execReadTableLabel tag s
  | .readTableMonitor tag => Sys2Proof.Machine.execReadTableMonitor tag s
  | .set tag image => Sys2Proof.Machine.execSet tag image s
  | .status tag clear => Sys2Proof.Machine.execStatus tag clear s
  | .abort tag victim => Sys2Proof.Machine.execAbort tag victim s
  | .abortAll tag => Sys2Proof.Machine.execAbortAll tag s
  | .reset tag => Sys2Proof.Machine.execReset tag s
  | .frameDiscardedBadCrc frame => Sys2Proof.Machine.execFrameDiscardedBadCrc frame s
  | .ejectButtonRelease => Sys2Proof.Machine.execEjectButtonRelease s

end Sys2Proof.Machine
end

