-- ==== Sys2Proof/Machine/Ticks.lean ====
section
/-! DEFINITION. The passage of time, which step takes on an empty queue (assumption 7): one tick of the 1 MHz reference (R36), and the timers of the
blocks. Also how a frame heard on the cable becomes a command (R172), and where the host's question puts one. -/

namespace Sys2Proof.Machine

/-- One microsecond less. -/
def countDown : Option Nat → Option Nat
  | some n => some (n - 1)
  | none => none

/-- The command of the first timer that has run out, if one has. The end of the debounce carries what the tab was last read to be, at the last power-on
reset or the last such command (the model's choice, assumption 36). -/
def dueTimer (s : State) : Option Instr :=
  if s.csq.debounce = some 0 then some (.seatingDebounceExpiry s.pins.tab)
  else if s.csq.oneShot = some 0 then some .ejectPulseEnd
  else if s.csq.ejectCheck = some 0 then some .ejectCheckExpiry
  else if s.csq.standby = some 0 then some .standbyTimerExpiry
  else if s.csq.grace = some 0 then some .graceTimerExpiry
  else if s.spc.spinUpTimer = some 0 then some .spinUpTimerExpiry
  else if s.spc.brakeStepTimer = some 0 then some .brakeStepExpiry
  else if s.spc.checkWaitTimer = some 0 then some .checkWaitExpiry
  else if s.svc.retractTimer = some 0 then some .retractTimerExpiry
  else if s.txe.holdTimer = some 0 then some .holdWaitExpiry
  else if s.sgc.flushTimer = some 0 then some .flushDelayExpiry
  else none

/-- Every timer counts down one microsecond. -/
def elapse (s : State) : State :=
  (((((s.modCsq fun c =>
    { c with debounce := countDown c.debounce, oneShot := countDown c.oneShot, ejectCheck := countDown c.ejectCheck,
             standby := countDown c.standby, grace := countDown c.grace }).modSpc fun p =>
    { p with spinUpTimer := countDown p.spinUpTimer, brakeStepTimer := countDown p.brakeStepTimer,
             checkWaitTimer := countDown p.checkWaitTimer }).modSvc fun v =>
    { v with retractTimer := countDown v.retractTimer }).modTxe fun t =>
    { t with holdTimer := countDown t.holdTimer }).modSgc fun g =>
    { g with flushTimer := countDown g.flushTimer }).modSmn fun m => { m with slotTimer := m.slotTimer - 1 }

/-- The time base counter adds one in ACQUIRE, TRACK and STOPCHECK; counting on from 262,143 it overflows and reads 0 (R36). -/
def countTick (s : State) : Act :=
  if s.spc.phase = .idle then done s
  else if s.spc.timeBase = 262143#18 then overflowAct (s.modSpc fun p => { p with timeBase := 0 })
  else done (s.modSpc fun p => { p with timeBase := p.timeBase + 1 })

/-- One tick with nothing commanded. -/
def tickAct (s : State) : Act := countTick (elapse s)

/-- Put a command at the front of the queue. -/
def State.queueFirst (s : State) (c : Instr) : State := { s with pending := c :: s.pending }

/-- Put a command at the back of the queue. -/
def State.queueLast (s : State) (c : Instr) : State := { s with pending := s.pending ++ [c] }

/-- A frame is heard on the cable (R172): one for this drive waits as the command it stands for, others are ignored. -/
def State.hear (s : State) (frame : List Byte) : State :=
  match decodeFrame s.lif.driveAddress frame with
  | .ignored => s
  | .command c => s.queueLast c

end Sys2Proof.Machine
end

