-- ==== Sys2Proof/Machine/Step.lean ====
section
/-! DEFINITION. One step: the command at the front of the queue, or one tick when none waits. -/

namespace Sys2Proof.Machine

/-- Nothing is commanded: a timer that has run out is taken, with no time passing; else one tick passes (assumption 7). -/
def idle (s : State) : Host.Outcome State Fault Refusal :=
  match dueTimer s with
  | some c => exec c s
  | none => run (tickAct s)

/-- Take the command at the front of the queue and run it with the queue's rest. -/
def step (s : State) : Host.Outcome State Fault Refusal :=
  match s.pending with
  | [] => idle s
  | c :: rest => exec c { s with pending := rest }

/-- The state with the command that a word spells at the front of its queue; unchanged where the word spells none. -/
def State.withFetchWord (s : State) (nbits w : Nat) : State :=
  match decodeTableWord nbits w with
  | some c => s.queueFirst c
  | none => s

end Sys2Proof.Machine
end

