-- ==== Sys2Proof/Safety.lean ====
section
/-! DEFINITION. The terms the statements use: what a command leads to, the conditions under which an order is dispatched at once, what a command leaves
unchanged, and the invariants of the machine. -/

namespace Sys2Proof.Machine

/-! ### What a command leads to -/

/-- A command answers a next state, and that state has a property. -/
abbrev Leads (c : Instr) (s : State) (p : State → Prop) : Prop := ∃ t, exec c s = .next t ∧ p t

/-- No order executes or waits, a tag is free and a place for its report too, and the slot is empty with nothing asking for it; an empty
slot has no sector operation, its gate is closed and job recovered is no (`SlotRests`). -/
abbrev Quiet (tag : Nat) (s : State) : Prop :=
  tag ≤ 15 ∧ s.lif.executing = none ∧ s.lif.orderQueue = [] ∧ s.lif.reports.length < 8 ∧
    (∀ r ∈ s.lif.reports, r.tag ≠ tag) ∧ s.txe.job = none ∧ s.txe.orderWaits = false ∧ s.txe.departureWaits = false ∧
    s.sgc.flushWanted = false ∧ s.txe.op = none ∧ s.txe.gate = false ∧ s.txe.jobRecovered = false

/-- `Quiet` in READY, with no calibration due. -/
abbrev QuietReady (tag : Nat) (s : State) : Prop := Quiet tag s ∧ s.csq.lifecycle = .ready ∧ s.svc.cal.due = false

/-- The heads follow a track and the speed lock holds. -/
abbrev OnTrack (s : State) : Prop := s.svc.mode = .follow ∧ s.svc.seekStatus = .onTrack ∧ s.spc.speedLock = true

/-- Every segment is free of attachments, as it is with the slot empty. -/
abbrev Unattached (s : State) : Prop := ∀ g ∈ s.sgc.segments, g.attachment = .free

/-! ### What a departure, a sample, a torn sector and a link reset make of a record -/

/-- The CSQ's record after a cause has taken the drive from READY to FLUSH (R15). -/
abbrev departedCsq (c : Causes) (r : StopReason) (q : Csq) : Csq :=
  { q with lifecycle := .flush, causes := c, departureReason := q.stopReason, stopReason := r,
           debounce := none, ejectCheck := none, oneShot := none, standby := none }

/-- The CSQ's record after a press of the eject button that sets eject pending (R6). -/
abbrev pressedCsq (q : Csq) : Csq := { q with buttonReady := false, ejectPending := true, ejectByButton := true }

/-- The stop reason after STOP_ORDER, EJECT_ORDER or BUTTON (R15). -/
abbrev orderedReason (r : StopReason) : StopReason := if r = .fault then .fault else .order

/-- The SVC's record after a RETRACT request that cuts off no seek (R71). -/
abbrev retractedSvc (v : Svc) : Svc :=
  { v with mode := .retract, retractCause := .requested, command := -60, saturated := false, retractTimer := some 50000,
           writePermission := false }

/-- The error E of a valid sample against the target (R80, R81). -/
abbrev sampleError (r : ServoRecord) (v : Svc) : Int := 256 * (v.targetCylinder : Int) + v.retryOffset - positionOf r

/-- The velocity V that a valid sample gives (R57). -/
abbrev sampleVelocity (r : ServoRecord) (v : Svc) : Int := clamp (-4095) 4095 (positionOf r - v.pos.p)

/-- The position record after a valid sample with velocity V (R57, R60). -/
abbrev sampledPosition (r : ServoRecord) (velocity : Int) (q : Position) : Position :=
  { q with p := positionOf r, v := velocity, band := r.cylinder / 150, latestValid := true, missed := 0, latestWedge := some r.wedge }

/-- The bias entry of a sample's band (R90). -/
abbrev sampleBias (r : ServoRecord) (v : Svc) : Int := v.bias.getD (r.cylinder / 150) 0

/-- The velocity law before its clamp (R81). -/
abbrev velocityCommand (r : ServoRecord) (e velocity : Int) (v : Svc) : Int :=
  Int.tdiv ((v.profile.kv : Int) * (demandedVelocity v.profile e - velocity)) 16 + sampleBias r v

/-- The term Ip of the position law (R83). -/
abbrev positionTerm (e velocity : Int) (v : Svc) : Int := Int.tdiv ((v.profile.kp : Int) * e - (v.profile.kd : Int) * velocity) 16

/-- The position law before its clamp, with the integrator after it has taken E (R83). -/
abbrev positionCommand (r : ServoRecord) (e velocity i : Int) (v : Svc) : Int :=
  sampleBias r v + positionTerm e velocity v + Int.tdiv i 64

/-- The SVC's record after a sample commanded by the velocity law (R67, R81). -/
abbrev byVelocityLaw (r : ServoRecord) (e velocity : Int) (v : Svc) : Svc :=
  { v with mode := .seek, pos := sampledPosition r velocity v.pos, latestError := e,
           command := clamp (-127) 127 (velocityCommand r e velocity v),
           saturated := decide (clamp (-127) 127 (velocityCommand r e velocity v) ≠ velocityCommand r e velocity v), writePermission := false }

/-- The SVC's record after a sample commanded by the position law, with integrator `i` (R67, R82, R83). -/
abbrev byPositionLaw (m : ServoMode) (r : ServoRecord) (e velocity i : Int) (v : Svc) : Svc :=
  { v with mode := m, pos := sampledPosition r velocity v.pos, latestError := e, integrator := i, termP := positionTerm e velocity v,
           termI := Int.tdiv i 64, command := clamp (-127) 127 (positionCommand r e velocity i v),
           saturated := decide (clamp (-127) 127 (positionCommand r e velocity i v) ≠ positionCommand r e velocity i v) }

/-- A settle count of `n` after a sample in SETTLE (R85). -/
abbrev settled (n : Nat) (e : Int) (v : Svc) : Svc :=
  { v with settleCount := if e.natAbs ≤ 16 ∧ v.saturated = false then n + 1 else 0, writePermission := false }

/-- The integrator after a valid sample commanded by the position law (R82, R83). -/
abbrev sampleIntegrator (r : ServoRecord) (v : Svc) : Int := clamp (-8192) 8192 (v.integrator + sampleError r v)

/-- Ip plus Ii of a valid sample, which the gathering sums (R83, R97). -/
abbrev sampleTerms (r : ServoRecord) (v : Svc) : Int :=
  positionTerm (sampleError r v) (sampleVelocity r v) v + Int.tdiv (sampleIntegrator r v) 64

/-- The SVC's record after a valid sample by the position law. -/
abbrev sampledSvc (m : ServoMode) (r : ServoRecord) (v : Svc) : Svc :=
  byPositionLaw m r (sampleError r v) (sampleVelocity r v) (sampleIntegrator r v) v

/-- A valid sample comes in FOLLOW while the pass is GATHERING, with no sector in work (R97). -/
abbrev Gathers (r : ServoRecord) (s : State) : Prop :=
  s.txe.op = none ∧ s.svc.mode = .follow ∧ s.svc.cal.stage = .gathering ∧ s.svc.pos.latestWedge ≠ some r.wedge ∧ sampleValid s.svc.pos r = true

/-- The bias table once the 64th sample of a band has been summed (R98). -/
abbrev correctedBias (r : ServoRecord) (v : Svc) : List Int :=
  v.bias.modify v.cal.band fun x => clamp (-32) 31 (x + roundDiv (v.cal.bandSum + sampleTerms r v) 64)

/-- Bands 0 to 6 are done (R99). -/
abbrev EarlierBandsDone (v : Svc) : Prop := ∀ b ∈ [0, 1, 2, 3, 4, 5, 6], b ∈ v.cal.bandsDone

/-- The SVC's record seeking the next band of the pass (R75, R96), over a record `v`. -/
abbrev seeksNextBand (v : Svc) : Svc :=
  { v with mode := .seek, targetCylinder := 150 * (v.cal.band + 1) + 75, targetHead := 0, retryOffset := 0, requester := .calibration,
           seekStatus := .outstanding, integrator := 0, settleCount := 0, timeoutCount := 0, writePermission := false,
           cal := { v.cal with stage := .seeking, band := v.cal.band + 1, gathered := 0, bandSum := 0, falls := 0 } }

/-- A seek is OUTSTANDING, and one more sample does not reach its timeout (R87). -/
abbrev SeekRuns (v : Svc) : Prop := v.seekStatus = .outstanding ∧ v.timeoutCount < 399

/-- The SVC's record after a missed sample in FOLLOW that is not the eighth (R58). -/
abbrev missedSvc (r : ServoRecord) (v : Svc) : Svc :=
  { v with settleCount := 0, writePermission := false,
           pos := { v.pos with p := v.pos.p + v.pos.v, latestValid := false, missed := v.pos.missed + 1,
                               totalMissed := min 65535 (v.pos.totalMissed + 1), latestWedge := some r.wedge } }

/-- A sector operation in its field has a retry left that asks for no new target, and no end or yield of its job is pending. -/
abbrev CanRetry (o : SectorOp) (s : State) : Prop :=
  o.phase = .transferring ∧ o.retries < s.lif.settings.retryLimit ∧ ladderOffset (o.retries + 1) = ladderOffset o.retries ∧
    s.txe.endPending = .no ∧ s.txe.yieldPending = false

/-- The transfer record after a sector was torn or a read abandoned with the heads in FOLLOW (R130, R132): one retry, looking again. -/
abbrev cutTxe (o : SectorOp) (t : Txe) : Txe :=
  { t with gate := false, op := some { o with retries := o.retries + 1, phase := .looking }, retryCounter := min 65535 (t.retryCounter + 1) }

/-- The media side has released the buffer port (R137). -/
abbrev portReleased (g : Sgc) : Sgc :=
  { g with mediaPort := false, linkPort := if g.linkPort = .suspended then .active else g.linkPort }

/-- The state after a link reset with nothing executing (R3, R182). -/
abbrev afterLinkReset (s : State) : State :=
  { s with
    lif := { s.lif with orderQueue := [], reports := [], expectedIndex := 0, exchange := .noFrame, cable := [] },
    sgc := { s.sgc with linkPort := .idle },
    csq := { s.csq with causes := { s.csq.causes with stopOrder := false, ejectOrder := false } } }

/-- The state after a link reset that also ended the executing order at once (R182), with its ORDER request (the model's choice, assumption 48). -/
abbrev afterLinkResetDrop (s : State) : State :=
  { afterLinkReset s with
    lif := { (afterLinkReset s).lif with executing := none, loadImage := [], readImage := [], readIndex := 0 },
    txe := { s.txe with orderWaits := false } }

/-! ### Jobs, operations, dirty blocks and frames -/

/-- A job of the executing order with a piece of work, and no segment flush under way. -/
abbrev orderJob (w : Work) : Job := { kind := .order, role := .background, work := w, flushing := none, suspended := none }

/-- A FLUSH job of a role, on a full flush. -/
abbrev flushJob (r : FlushRole) : Job := { kind := .flush, role := r, work := .flush, flushing := none, suspended := none }

/-- A fresh sector operation on a target, at a place; its field has not begun. -/
abbrev WorksOn (target : OpTarget) (d : Direction) (p : Place) (t : State) : Prop :=
  ∃ o, t.txe.op = some o ∧ o.target = target ∧ o.dir = d ∧ o.cylinder = p.cylinder ∧ o.head = p.head ∧ o.sector = p.sector ∧
    o.retries = 0 ∧ o.phase ≠ .transferring

/-- No request waits for the slot and no calibration is due: a slot that falls empty in READY stays so. -/
abbrev NothingWaits (s : State) : Prop :=
  s.lif.orderQueue = [] ∧ s.csq.lifecycle = .ready ∧ s.svc.cal.due = false ∧ s.txe.orderWaits = false ∧ s.txe.departureWaits = false

/-- A segment once no job holds it (R143). -/
abbrev freed (g : Segment) : Segment := { g with attachment := .free }

/-- A segment in which a WRITE has placed a block: it left both sets and joined them again (R149). -/
abbrev placedIn (n : Nat) (g : Segment) : Segment :=
  { g with valid := insertNat (n % 16) (eraseNat (n % 16) g.valid), dirty := insertNat (n % 16) (eraseNat (n % 16) g.dirty) }

/-- The dirty blocks, segment by segment. -/
abbrev dirtyBlocks (s : State) : List Nat := s.sgc.segments.flatMap fun g => g.dirty.map fun o => g.base + o

/-- A block is dirty in the cache beside the one at an offset of a segment. -/
abbrev DirtyBeside (i k : Nat) (s : State) : Prop := ∃ x < s.sgc.segments.length, ∃ o ∈ (segmentAt s x).dirty, ¬ (x = i ∧ o = k)

/-- A block is dirty and no dirty block is lower. -/
abbrev LeastDirty (n : Nat) (s : State) : Prop := n ∈ dirtyBlocks s ∧ ∀ m ∈ dirtyBlocks s, n ≤ m

/-- The bytes on the cable are a frame cut off after `sent`, with a CRC that does not match them (R158). -/
abbrev SpoiledAfter (sent : List Byte) (t : State) : Prop :=
  t.lif.cable.take sent.length = sent ∧ t.lif.cable.length = sent.length + 2 ∧ t.lif.cable ≠ sent ++ be2 (crc16 sent).toNat

/-- ACCEPT and a STATUS_REPORT of the state reached are on the cable (R173, R181). -/
abbrev StatusAnswered (tag : Nat) (r : Option AbortResult) (removed : Nat) (t : State) : Prop :=
  t.lif.cable = 0xA5#8 :: encodeFrame 0x84 t.lif.driveAddress tag 0 (statusBytes r removed t)

/-- The commands that are orders to be queued (R173), with some parameters. -/
abbrev queuedOrders (tag a b : Nat) (image : SettingsImage) : List Instr :=
  [.start tag, .stop tag, .eject tag a, .ejectDiscard tag, .removalPrevent tag a, .removalAllow tag, .seek tag a b, .read tag a b,
   .write tag a b, .flush tag, .reassign tag a, .commitLabel tag a, .calibrate tag, .loadTableProfile tag a b, .loadTableBias tag a,
   .loadTableZone tag a, .loadTableDefect tag a, .loadTableLabel tag a, .loadTableMonitor tag a, .readTableProfile tag a, .readTableBias tag,
   .readTableZone tag, .readTableDefect tag, .readTableLabel tag, .readTableMonitor tag, .set tag image]

/-! ### Frames -/

/-- The SPC, the SVC, the SMN, the sensors and the waiting commands are unchanged. -/
abbrev KeepsMechanism (s t : State) : Prop :=
  t.spc = s.spc ∧ t.svc = s.svc ∧ t.smn = s.smn ∧ t.pins = s.pins ∧ t.pending = s.pending

/-- The settings, the notices, the drive address and the CRC discard counter are unchanged. -/
abbrev KeepsLink (s t : State) : Prop :=
  t.lif.settings = s.lif.settings ∧ t.lif.notices = s.lif.notices ∧ t.lif.driveAddress = s.lif.driveAddress ∧
    t.lif.crcDiscards = s.lif.crcDiscards

/-- The segment records, the recency list, the buffer and the loss accounting are unchanged. -/
abbrev KeepsCache (s t : State) : Prop :=
  t.sgc.segments = s.sgc.segments ∧ t.sgc.recency = s.sgc.recency ∧ t.sgc.buffer = s.sgc.buffer ∧
    t.sgc.lostBlocks = s.sgc.lostBlocks ∧ t.sgc.lastLost = s.sgc.lastLost

/-- The tables and the label are unchanged. -/
abbrev KeepsTables (s t : State) : Prop :=
  t.txe.zones = s.txe.zones ∧ t.txe.capacity = s.txe.capacity ∧ t.txe.spareCount = s.txe.spareCount ∧ t.txe.defects = s.txe.defects ∧
    t.txe.record = s.txe.record ∧ t.txe.labelStatus = s.txe.labelStatus ∧ t.txe.labelModified = s.txe.labelModified

/-- The CSQ's record in a state that runs none of its timers. -/
abbrev stillCsq (l : Lifecycle) (c : Csq) : Csq :=
  { c with lifecycle := l, debounce := none, ejectCheck := none, oneShot := none, standby := none, grace := none }

/-- A fresh start of the standby timer by a settings record (R14). -/
abbrev standbyFrom (x : Settings) : Option Nat := if x.standbyDelay = 0 then none else some (x.standbyDelay * 60000000)

/-- The CSQ's record after a dispatch: in READY the standby timer starts again by the delay of a settings record (R14). -/
abbrev dispatchedCsq (x : Settings) (c : Csq) : Csq := { c with standby := if c.lifecycle = .ready then standbyFrom x else c.standby }

/-- The cache's record in a state outside READY and FLUSH. -/
abbrev stillSgc (g : Sgc) : Sgc := { g with flushTimer := none, heldDeparture := false }

/-- The blocks every segment holds, apart from attachments. -/
abbrev heldBlocks (s : State) : List (Nat × List Nat × List Nat) := s.sgc.segments.map fun g => (g.base, g.valid, g.dirty)

/-- An order was accepted, dispatched and ended within its command: ACCEPT is on the cable and its report is the newest. -/
abbrev EndedAtOnce (tag : Nat) (k : OrderKind) (o : Outcome) (d : Detail) (s t : State) : Prop :=
  t.lif.cable = [handAccept] ∧ t.lif.executing = none ∧ t.lif.orderQueue = [] ∧
    t.lif.reports = s.lif.reports ++
      [{ tag := tag, kind := k, outcome := o, blocks := 0, detail := d, lifecycle := t.csq.lifecycle }]

/-- The last frame of a LOAD_TABLE is due: the order gathers its image, has taken the frames `prev`, and no other order waits (R178). -/
abbrev LastFrameDue (tag id : Nat) (prev : List (List Byte)) (s : State) : Prop :=
  s.lif.executing = some { order := { tag := tag, kind := .loadTable id (prev.length + 1) }, remnant := false, stage := .gathering, blocks := 0 } ∧
    s.lif.expectedIndex = prev.length ∧ s.lif.loadImage = prev ∧ s.lif.orderQueue = []

/-- A LOAD_TABLE ended with an outcome other than DONE at its last frame, and nothing of the tables has changed. -/
abbrev LoadRefused (tag id frames : Nat) (o : Outcome) (s t : State) : Prop :=
  EndedAtOnce tag (.loadTable id frames) o (.table id) s t ∧ KeepsMechanism s t ∧ KeepsLink s t ∧ KeepsCache s t ∧ KeepsTables s t ∧ t.csq = s.csq

/-- An order was accepted and dispatched, and goes on executing at a stage. -/
abbrev Executes (tag : Nat) (k : OrderKind) (st : Stage) (s t : State) : Prop :=
  t.lif.cable = [handAccept] ∧ t.lif.orderQueue = [] ∧ t.lif.reports = s.lif.reports ∧
    t.lif.executing = some { order := { tag := tag, kind := k }, remnant := false, stage := st, blocks := 0 }

/-! ### Invariants -/

/-- The write gate is open only while the six conditions of R131 hold. -/
abbrev GateSafe (s : State) : Prop :=
  s.txe.gate = true →
    s.svc.mode = .follow ∧ s.svc.pos.latestValid = true ∧ s.svc.writePermission = true ∧ s.spc.speedLock = true ∧
      s.csq.writeProtected = false ∧ writeHold s = false ∧ (s.csq.lifecycle = .ready ∨ s.csq.lifecycle = .flush)

/-- The attention line is asserted while a report waits or a notice stands outside the mask, and released otherwise (R183). -/
abbrev AttentionFollows (s : State) : Prop :=
  s.lif.attention = true ↔ (s.lif.reports ≠ [] ∨ s.lif.notices &&& ~~~s.lif.settings.noticeMask ≠ 0)

/-- With the job slot empty there is no sector operation, the write gate is closed and job recovered is no (R123, R126, R127). -/
abbrev SlotRests (s : State) : Prop := s.txe.job = none → s.txe.op = none ∧ s.txe.gate = false ∧ s.txe.jobRecovered = false

/-- The lock is released only in EMPTY, SEATING, EJECT and JAMMED (R7), and the eject solenoid is driven only in EJECT with the lock
released (R8, R18). -/
abbrev SolenoidsInterlocked (s : State) : Prop :=
  (s.csq.lockEngaged = false →
    s.csq.lifecycle = .empty ∨ s.csq.lifecycle = .seating ∨ s.csq.lifecycle = .eject ∨ s.csq.lifecycle = .jammed) ∧
  (s.csq.oneShot.isSome = true → s.csq.lifecycle = .eject ∧ s.csq.lockEngaged = false)

/-- The measurement phases that go with each spindle state (R32). -/
def phaseFits : SpindleState → Phase → Bool
  | .driving, p => p == .acquire || p == .track
  | .checking, p => p == .stopCheck
  | .still, p | .coasting, p | .braking, p | .waiting, p => p == .idle

/-- The spindle state fixes the drive enable, the brake level and the measurement phase (R32), and the speed lock is set in TRACK alone (R30). -/
abbrev SpindleOutputsFollow (s : State) : Prop :=
  (s.spc.driveEnable = true ↔ s.spc.state = .driving) ∧ (s.spc.state = .braking → 1 ≤ s.spc.brakeLevel ∧ s.spc.brakeLevel ≤ 8) ∧
    (s.spc.state ≠ .braking → s.spc.brakeLevel = 0) ∧ phaseFits s.spc.state s.spc.phase = true ∧ (s.spc.speedLock = true ↔ s.spc.phase = .track)

/-- The actuator command, the integrator and the bias entries lie in their ranges (R67, R82, R90). -/
abbrev ServoInRange (s : State) : Prop :=
  (-127 ≤ s.svc.command ∧ s.svc.command ≤ 127) ∧ (-8192 ≤ s.svc.integrator ∧ s.svc.integrator ≤ 8192) ∧
    ∀ x ∈ s.svc.bias, (-32 : Int) ≤ x ∧ x ≤ 31

/-- A segment record is sound (R140): its window begins at a multiple of 16, its offsets lie below 16, both sets ascend, and each dirty block is valid. -/
abbrev SegmentSound (g : Segment) : Prop :=
  g.base % 16 = 0 ∧ g.valid.Pairwise (· < ·) ∧ g.dirty.Pairwise (· < ·) ∧ (∀ o ∈ g.valid, o < 16) ∧ ∀ o ∈ g.dirty, o ∈ g.valid

/-- The segment records are sound and no two that hold their windows have the same base (R140), so no two with a non-empty valid set; the recency list
holds all eight segments once each (R141), and the buffer's cells keep their canonical form. -/
abbrev CacheSound (s : State) : Prop :=
  (∀ g ∈ s.sgc.segments, SegmentSound g) ∧
    s.sgc.segments.Pairwise (fun g h => g.holdsWindow = true → h.holdsWindow = true → g.base ≠ h.base) ∧
    s.sgc.segments.length = 8 ∧ s.sgc.recency.Perm [0, 1, 2, 3, 4, 5, 6, 7] ∧ memoryWf s.sgc.buffer = true

/-- The zone table meets R104 with its capacity and spare count (R105); the defect list meets R109 and is empty unless the label is VALID; label modified is
set only in VALID (R114); there is a cartridge record in VALID and FOREIGN, and none in UNREAD (R102). -/
abbrev LabelSound (s : State) : Prop :=
  zoneTableOk s.txe.zones = true ∧ s.txe.capacity = capacityOf s.txe.zones ∧ s.txe.spareCount = spareCountOf s.txe.zones ∧
    defectsOk s.txe.capacity s.txe.spareCount s.txe.defects = true ∧ (s.txe.labelStatus ≠ .valid → s.txe.defects = []) ∧
    (s.txe.labelModified = true → s.txe.labelStatus = .valid) ∧
    (s.txe.labelStatus = .valid ∨ s.txe.labelStatus = .foreign → s.txe.record.isSome = true) ∧
    (s.txe.labelStatus = .unread → s.txe.record = none)

/-- The order queue holds at most 4 orders, and queued orders, the executing order and pending reports number at most 8 (R176). -/
abbrev PlacesReserved (s : State) : Prop := s.lif.orderQueue.length ≤ 4 ∧ placesHeld s ≤ 8

end Sys2Proof.Machine
end

