-- ==== Sys2Proof/Certificates/Slice0/Obligations.lean ====
section
/-! DEFINITION. The statements for the provers. Each docstring names the rules of spec/ it formalises. -/

open Sys2Proof Sys2Proof.Machine

/-! ### The machine -/

/-- A step at a state whose queue begins with a command runs that command with the queue's rest. -/
def Obligations.StepRunsFrontCommand : Prop :=
  ∀ (c : Instr) (rest : List Instr) (s : State), s.pending = c :: rest → step s = exec c { s with pending := rest }

/-- The model's choice (assumption 7): on an empty queue a timer that has run out is taken; with none, one tick passes and the time base counter, when it
counts (R36), adds one. -/
def Obligations.EmptyQueueTicks : Prop :=
  ∀ s : State, s.pending = [] →
    (∀ c, dueTimer s = some c → step s = exec c s) ∧
    (dueTimer s = none → s.spc.phase = .idle → step s = .next (finish (elapse s))) ∧
    (dueTimer s = none → s.spc.phase ≠ .idle → s.spc.timeBase ≠ 262143#18 →
      step s = .next (finish ((elapse s).modSpc fun p => { p with timeBase := p.timeBase + 1 })))

/-- The items named hold their power-on values in the state after reset, with no cartridge in the drive (of the tables of R1, R30, R65, R92, R102, R123,
R140, R161, R171). -/
def Obligations.ResetLeavesTheTables : Prop :=
  let s := State.reset
  (s.csq.lifecycle = .empty ∧ s.csq.stopReason = .insert ∧ s.csq.faultHold = false ∧ s.csq.removalPrevented = false ∧
    s.csq.spinUpRequest = false ∧ s.csq.ejectPending = false ∧ s.csq.causes = noCauses ∧ s.csq.lockEngaged = false ∧ s.csq.oneShot = none) ∧
  (s.spc.state = .still ∧ s.spc.driveEnable = false ∧ s.spc.brakeLevel = 0 ∧ s.spc.phase = .idle ∧ s.spc.speedLock = false ∧
    s.spc.lastCheckConfirmed = true) ∧
  (s.svc.mode = .parked ∧ s.svc.command = -8 ∧ s.svc.integrator = 0 ∧ s.svc.writePermission = false ∧ s.svc.cal.due = true ∧
    s.svc.cal.temperature = none ∧ s.svc.bias = [0, 0, 0, 0, 0, 0, 0, 0]) ∧
  (s.txe.capacity = 71736 ∧ s.txe.spareCount = 192 ∧ s.txe.defects = [] ∧ s.txe.record = none ∧ s.txe.labelStatus = .unread ∧
    s.txe.labelModified = false ∧ s.txe.job = none ∧ s.txe.op = none ∧ s.txe.gate = false ∧ s.txe.retryCounter = 0) ∧
  (s.sgc.segments = List.replicate 8 freeSegment ∧ s.sgc.recency = [0, 1, 2, 3, 4, 5, 6, 7] ∧ s.sgc.flushTimer = none ∧
    s.sgc.lostBlocks = 0 ∧ s.sgc.lastLost = none) ∧
  (s.smn.slot = .v12 ∧ s.smn.roundComplete = false ∧ writeHold s = false) ∧
  (s.lif.orderQueue = [] ∧ s.lif.executing = none ∧ s.lif.expectedIndex = 0 ∧ s.lif.reports = [] ∧ s.lif.notices = 0 ∧
    s.lif.crcDiscards = 0 ∧ s.lif.attention = false)

/-! ### Events at the sequencer -/

/-- POWER_ON_RESET (R1, R2): without a cartridge the reset state; with one, the lock engaged, the tab recorded, SPIN_DOWN, and the spindle braking from
level 8. Equality with State.reset and with resetCsq, resetTxe and resetSgc also states the model's own values where the spec gives none: the straps
and sensor of the reset state (assumption 1), the blank buffer (2), the zeros of the label store (3), and the CSQ's implied items, the button that can
be taken and the INSERTED that waits for the stop among them (4). -/
def Obligations.PowerOnTakesPresence : Prop :=
  ∀ (tab : Bool) (straps : Nat) (s : State),
    exec (.powerOnReset false tab straps) s =
      .next { State.reset with lif := resetLif straps, pins := { present := false, tab := tab, straps := straps }, pending := s.pending } ∧
    Leads (.powerOnReset true tab straps) s fun t =>
      t.csq = { resetCsq with lifecycle := .spinDown, lockEngaged := true, writeProtected := tab, insertedDue := true } ∧
      t.spc.state = .braking ∧ t.spc.brakeLevel = 8 ∧ t.spc.brakingRound = 1 ∧ t.spc.brakeStepTimer = some 62500 ∧
      t.spc.driveEnable = false ∧ t.spc.lastCheckConfirmed = false ∧ t.svc = resetSvc ∧ t.txe = resetTxe ∧ t.sgc = resetSgc ∧
      t.smn = resetSmn ∧ t.lif = resetLif straps ∧ t.pending = s.pending

/-- PRESENCE_CHANGE (R4): EMPTY to SEATING with 250 ms of debounce, SEATING back to EMPTY with no notice, and no effect but the sensor's reading while the
lock holds the cartridge. -/
def Obligations.PresenceSeatsAndUnseats : Prop :=
  ∀ s : State,
    (s.csq.lifecycle = .empty →
      exec (.presenceChange true) s = .next (finish { s with
        csq := { stillCsq .seating s.csq with debounce := some 250000 }, sgc := stillSgc s.sgc, pins := { s.pins with present := true } })) ∧
    (s.csq.lifecycle = .seating →
      exec (.presenceChange false) s = .next (finish { s with
        csq := stillCsq .empty s.csq, sgc := stillSgc s.sgc, pins := { s.pins with present := false } })) ∧
    (∀ p : Bool, s.csq.lifecycle ≠ .empty → s.csq.lifecycle ≠ .seating → s.csq.lifecycle ≠ .eject → s.csq.lifecycle ≠ .jammed →
      exec (.presenceChange p) s = .next (finish { s with pins := { s.pins with present := p } }))

/-- PRESENCE_CHANGE in EJECT and JAMMED (R18, R19, R20): with no EJECT order executing, the cartridge leaves, EJECTED is latched, label and segments are
forgotten, and EMPTY is entered. -/
def Obligations.CartridgeLeaves : Prop :=
  ∀ s : State, (s.csq.lifecycle = .eject ∨ s.csq.lifecycle = .jammed) → ejectExecuting s = false →
    Leads (.presenceChange false) s fun t =>
      t.csq = { stillCsq .empty s.csq with ejectPending := false, ejectByButton := false, writeProtected := false } ∧
      t.txe.labelStatus = .unread ∧ t.txe.record = none ∧ t.txe.defects = [] ∧ t.txe.labelModified = false ∧ t.txe.zones = s.txe.zones ∧
      (∀ g ∈ t.sgc.segments, g.valid = [] ∧ g.dirty = [] ∧ g.attachment = .free) ∧
      t.lif.notices = s.lif.notices ||| 2#16 ∧ t.lif.reports = s.lif.reports ∧
      t.spc = s.spc ∧ t.svc = s.svc ∧ t.smn = s.smn ∧ t.pending = s.pending

/-- SEATING_DEBOUNCE_EXPIRY (R4, R5): the lock engages, the tab is recorded, INSERTED is latched and STOPPED is entered with reason INSERT; with the
spin-on-insert setting on, the fault hold clear, both gates open and the spindle STILL, SPIN_UP follows (R9, R33). -/
def Obligations.DebounceLocksTheCartridge : Prop :=
  ∀ (tab : Bool) (s : State), s.csq.debounce.isSome = true → s.csq.lifecycle = .seating →
    (s.lif.settings.spinOnInsert = false ∨ s.csq.faultHold = true →
      exec (.seatingDebounceExpiry tab) s = .next (finish { s with
        csq := { stillCsq .stopped s.csq with lockEngaged := true, writeProtected := tab, stopReason := .insert }
        sgc := stillSgc s.sgc, lif := { s.lif with notices := s.lif.notices ||| 1#16 }, pins := { s.pins with tab := tab } })) ∧
    (s.lif.settings.spinOnInsert = true → s.csq.faultHold = false → s.smn.roundComplete = true → gateShut s = false → s.spc.state = .still →
      Leads (.seatingDebounceExpiry tab) s fun t =>
        t.csq = { stillCsq .spinUp s.csq with lockEngaged := true, writeProtected := tab, stopReason := .insert, spinUpRequest := false } ∧
        t.spc.state = .driving ∧ t.spc.driveEnable = true ∧ t.spc.phase = .acquire ∧ t.spc.spinUpTimer = some 10000000 ∧
        t.lif.notices = s.lif.notices ||| 1#16 ∧ t.svc = s.svc ∧ t.smn = s.smn ∧ t.pending = s.pending)

/-- EJECT_BUTTON_PRESS and EJECT_BUTTON_RELEASE (R6): a press with removal prevented latches EJECT_REQUEST alone, and with removal allowed it acts by
state. EMPTY and SEATING: nothing. STOPPED: ejection begins at once (R18), or over dirty blocks or a modified label is refused with EJECT_REQUEST.
During a start and a stop it sets eject pending. READY: BUTTON becomes the cause of the departure to FLUSH (R15), the causes set afresh (assumption
28), whose flush waits for an order's job, takes over a background flush, begins on the lowest dirty block, or is complete at once, with the requester
and the status of a seek that is not OUTSTANDING kept (the model's choice, assumption 31). FLUSH: BUTTON joins the causes. EJECT: a running pulse is
restarted at full width (R8), and in the check wait nothing happens. JAMMED, with the cartridge still sensed: a retry round (R19) with its first
pulse. A press before the release is not taken. -/
def Obligations.ButtonActsByState : Prop :=
  ∀ (j : Job) (n : Nat) (s : State),
    (s.csq.buttonReady = true → s.csq.removalPrevented = true → s.csq.lifecycle ≠ .empty →
      exec .ejectButtonPress s = .next (finish { s with
        csq := { s.csq with buttonReady := false }, lif := { s.lif with notices := s.lif.notices ||| 4#16 } })) ∧
    (s.csq.buttonReady = true → (s.csq.lifecycle = .empty ∨ (s.csq.lifecycle = .seating ∧ s.csq.removalPrevented = false)) →
      exec .ejectButtonPress s = .next (finish { s with csq := { s.csq with buttonReady := false } })) ∧
    (s.csq.buttonReady = true → s.csq.removalPrevented = false →
      (s.csq.lifecycle = .spinUp ∨ s.csq.lifecycle = .headLoad ∨ s.csq.lifecycle = .labelRead ∨ s.csq.lifecycle = .calibrate ∨
        s.csq.lifecycle = .unload ∨ s.csq.lifecycle = .spinDown) →
      exec .ejectButtonPress s = .next (finish { s with csq := pressedCsq s.csq })) ∧
    (s.csq.buttonReady = true → s.csq.removalPrevented = false → s.csq.lifecycle = .stopped → s.lif.executing = none →
      (dirtyCount s = 0 → s.txe.labelModified = false → s.svc.mode = .parked → s.spc.lastCheckConfirmed = true → s.pins.present = true →
        exec .ejectButtonPress s = .next (finish { s with
          csq := { stillCsq .eject (pressedCsq s.csq) with
            spinUpRequest := false, ejectRound := .first, ejectPulses := 1, lockEngaged := false, ejectCheck := s.csq.ejectCheck,
            oneShot := some (if s.lif.settings.ejectLong then 160000 else 40000) },
          sgc := stillSgc s.sgc })) ∧
      ((dirtyCount s ≠ 0 ∨ s.txe.labelModified = true) →
        exec .ejectButtonPress s = .next (finish { s with
          csq := { s.csq with buttonReady := false, spinUpRequest := false, ejectPending := false, ejectByButton := false },
          lif := { s.lif with notices := s.lif.notices ||| 4#16 } }))) ∧
    (s.csq.buttonReady = true → s.csq.removalPrevented = false → s.csq.lifecycle = .ready → passTag s = none →
      (s.txe.job = some j → j.kind = .order →
        Leads .ejectButtonPress s fun t =>
          t.csq = departedCsq { noCauses with button := true } (orderedReason s.csq.stopReason) (pressedCsq s.csq) ∧
          t.txe.departureWaits = true ∧ t.txe.job = some j ∧ t.txe.op = s.txe.op ∧
          KeepsMechanism s t ∧ KeepsLink s t ∧ KeepsCache s t ∧ KeepsTables s t ∧ t.lif.reports = s.lif.reports) ∧
      (s.txe.job = some j → j.kind = .flush → j.role = .background →
        Leads .ejectButtonPress s fun t =>
          t.csq = departedCsq { noCauses with button := true } (orderedReason s.csq.stopReason) (pressedCsq s.csq) ∧
          t.txe.job = some { j with role := .departure } ∧ t.txe.yieldPending = false ∧ t.txe.op = s.txe.op ∧
          KeepsMechanism s t ∧ KeepsLink s t ∧ KeepsCache s t ∧ KeepsTables s t ∧ t.lif.reports = s.lif.reports) ∧
      (s.txe.job = none → CacheSound s → LeastDirty n s → s.svc.cal.stage = .idle →
        Leads .ejectButtonPress s fun t =>
          t.csq = departedCsq { noCauses with button := true } (orderedReason s.csq.stopReason) (pressedCsq s.csq) ∧
          t.txe.job = some (flushJob .departure) ∧ WorksOn (.block n) .write (mapBlock s.txe n) t ∧ heldBlocks t = heldBlocks s ∧
          t.sgc.buffer = s.sgc.buffer ∧ t.spc = s.spc ∧ t.smn = s.smn ∧ KeepsLink s t ∧ KeepsTables s t ∧ t.lif.reports = s.lif.reports) ∧
      (s.txe.job = none → dirtyCount s = 0 → s.txe.labelModified = false → OnTrack s → s.lif.executing = none →
        Leads .ejectButtonPress s fun t =>
          t.csq = { stillCsq .unload (pressedCsq s.csq) with
            causes := noCauses, departureReason := s.csq.stopReason, stopReason := orderedReason s.csq.stopReason } ∧
          t.svc = retractedSvc s.svc ∧ t.txe.job = none ∧ t.spc = s.spc ∧ t.smn = s.smn ∧ KeepsLink s t ∧ KeepsTables s t ∧
          heldBlocks t = heldBlocks s ∧ t.sgc.buffer = s.sgc.buffer ∧ t.lif.reports = s.lif.reports)) ∧
    (s.csq.buttonReady = true → s.csq.removalPrevented = false → s.csq.lifecycle = .flush →
      exec .ejectButtonPress s = .next (finish { s with
        csq := { pressedCsq s.csq with causes := { s.csq.causes with button := true }, stopReason := orderedReason s.csq.stopReason } })) ∧
    (s.csq.buttonReady = true → s.csq.removalPrevented = false → s.csq.lifecycle = .eject →
      (s.csq.oneShot.isSome = true → s.csq.lockEngaged = false →
        exec .ejectButtonPress s = .next (finish { s with
          csq := { s.csq with buttonReady := false, oneShot := some (if s.lif.settings.ejectLong then 160000 else 40000) } })) ∧
      (s.csq.oneShot = none → exec .ejectButtonPress s = .next (finish { s with csq := { s.csq with buttonReady := false } }))) ∧
    (s.csq.buttonReady = true → s.csq.removalPrevented = false → s.csq.lifecycle = .jammed → s.pins.present = true →
      exec .ejectButtonPress s = .next (finish { s with
        csq := { stillCsq .eject s.csq with
          buttonReady := false, ejectRound := .retry, ejectPulses := 1, lockEngaged := false, ejectCheck := s.csq.ejectCheck,
          oneShot := some (if s.lif.settings.ejectLong then 160000 else 40000) },
        sgc := stillSgc s.sgc })) ∧
    (s.csq.buttonReady = false → exec .ejectButtonPress s = .next (finish s)) ∧
    exec .ejectButtonRelease s = .next (finish { s with csq := { s.csq with buttonReady := true } })

/-- EJECT_PULSE_END and EJECT_CHECK_EXPIRY (R8, R18): the end of a pulse starts a check of 500 ms; a check that runs out with the cartridge still sensed
fires the next pulse, and after the third, with no EJECT order executing, JAMMED is latched and entered; with the sensor false, and no EJECT order
executing, the cartridge is gone: EJECTED is latched and EMPTY entered (assumption 28 for a sensor that changed while locked). -/
def Obligations.EjectCourseRuns : Prop :=
  ∀ s : State, s.csq.lifecycle = .eject →
    (s.csq.oneShot.isSome = true →
      exec .ejectPulseEnd s = .next (finish { s with csq := { s.csq with oneShot := none, ejectCheck := some 500000 } })) ∧
    (s.csq.ejectCheck.isSome = true → s.pins.present = true → s.csq.ejectPulses < 3 → s.csq.lockEngaged = false →
      exec .ejectCheckExpiry s = .next (finish { s with
        csq := { s.csq with ejectCheck := none, ejectPulses := s.csq.ejectPulses + 1,
                            oneShot := some (if s.lif.settings.ejectLong then 160000 else 40000) } })) ∧
    (s.csq.ejectCheck.isSome = true → s.pins.present = true → 3 ≤ s.csq.ejectPulses → ejectExecuting s = false →
      exec .ejectCheckExpiry s = .next (finish { s with
        csq := stillCsq .jammed s.csq, sgc := stillSgc s.sgc, lif := { s.lif with notices := s.lif.notices ||| 8#16 } })) ∧
    (s.csq.ejectCheck.isSome = true → s.pins.present = false → ejectExecuting s = false →
      Leads .ejectCheckExpiry s fun t =>
        t.csq = { stillCsq .empty s.csq with ejectPending := false, ejectByButton := false, writeProtected := false } ∧
        t.txe.labelStatus = .unread ∧ t.txe.record = none ∧ t.txe.defects = [] ∧ t.txe.labelModified = false ∧ t.txe.zones = s.txe.zones ∧
        (∀ g ∈ t.sgc.segments, g.valid = [] ∧ g.dirty = [] ∧ g.attachment = .free) ∧
        t.lif.notices = s.lif.notices ||| 2#16 ∧ t.lif.reports = s.lif.reports ∧ KeepsMechanism s t)

/-- STANDBY_TIMER_EXPIRY in READY (R14, R15, R16, R124): FLUSH is entered, the stop reason is kept as the departure stop reason, and the departure flush
asks for the slot. The causes become STANDBY alone, whatever a state of READY held before (assumption 28). An order's job is waited for; with the slot
empty and nothing dirty the flush is complete and UNLOAD is entered, with its RETRACT request unless a retraction is in progress (R17, R71), the
requester and the seek status of a seek that is not OUTSTANDING kept (the model's choice, assumption 31); with a dirty block the flush begins on the
lowest one; a background FLUSH takes the role of the departure flush; a READ_AHEAD yields, at once or at the end of its field. -/
def Obligations.StandbyLeavesReady : Prop :=
  ∀ (j : Job) (n : Nat) (s : State), s.csq.standby.isSome = true → s.csq.lifecycle = .ready → passTag s = none →
    (s.txe.job = some j → j.kind = .order →
      Leads .standbyTimerExpiry s fun t =>
        t.csq = departedCsq { noCauses with standby := true } .standby s.csq ∧
        t.txe.departureWaits = true ∧ t.txe.job = some j ∧ t.txe.op = s.txe.op ∧ t.sgc.flushTimer = none ∧
        KeepsMechanism s t ∧ KeepsLink s t ∧ KeepsCache s t ∧ KeepsTables s t ∧ t.lif.reports = s.lif.reports) ∧
    (s.txe.job = none → dirtyCount s = 0 → s.txe.labelModified = false → OnTrack s → s.lif.executing = none →
      Leads .standbyTimerExpiry s fun t =>
        t.csq = { stillCsq .unload s.csq with causes := noCauses, departureReason := s.csq.stopReason, stopReason := .standby } ∧
        t.svc = retractedSvc s.svc ∧ t.txe.job = none ∧ t.txe.op = none ∧ t.txe.departureWaits = false ∧ t.sgc.flushTimer = none ∧
        t.spc = s.spc ∧ t.smn = s.smn ∧ t.pending = s.pending ∧ KeepsLink s t ∧ KeepsTables s t ∧ heldBlocks t = heldBlocks s ∧
        t.sgc.buffer = s.sgc.buffer ∧ t.lif.reports = s.lif.reports) ∧
    (s.txe.job = none → dirtyCount s = 0 → s.txe.labelModified = false → (s.svc.mode = .lost ∨ s.svc.mode = .retract) → s.lif.executing = none →
      Leads .standbyTimerExpiry s fun t =>
        t.csq = { stillCsq .unload s.csq with causes := noCauses, departureReason := s.csq.stopReason, stopReason := .standby } ∧
        t.svc = s.svc ∧ t.txe.job = none ∧ t.txe.op = none ∧ t.txe.departureWaits = false ∧ t.sgc.flushTimer = none ∧
        t.spc = s.spc ∧ t.smn = s.smn ∧ t.pending = s.pending ∧ KeepsLink s t ∧ KeepsTables s t ∧ heldBlocks t = heldBlocks s ∧
        t.sgc.buffer = s.sgc.buffer ∧ t.lif.reports = s.lif.reports) ∧
    ((s.txe.job = none ∨ (s.txe.job = some j ∧ j.kind = .readAhead ∧ atBoundary s = true ∧ s.txe.orderWaits = false)) →
      CacheSound s → LeastDirty n s → s.svc.cal.stage = .idle →
      Leads .standbyTimerExpiry s fun t =>
        t.csq = departedCsq { noCauses with standby := true } .standby s.csq ∧
        t.txe.job = some (flushJob .departure) ∧ t.txe.departureWaits = false ∧ WorksOn (.block n) .write (mapBlock s.txe n) t ∧
        t.sgc.flushTimer = none ∧ t.spc = s.spc ∧ t.smn = s.smn ∧ t.pending = s.pending ∧ KeepsLink s t ∧ KeepsTables s t ∧
        heldBlocks t = heldBlocks s ∧ t.sgc.buffer = s.sgc.buffer ∧ t.lif.reports = s.lif.reports) ∧
    (s.txe.job = some j → j.kind = .flush → j.role = .background →
      Leads .standbyTimerExpiry s fun t =>
        t.csq = departedCsq { noCauses with standby := true } .standby s.csq ∧
        t.txe.job = some { j with role := .departure } ∧ t.txe.yieldPending = false ∧ t.txe.op = s.txe.op ∧ t.sgc.flushTimer = none ∧
        KeepsMechanism s t ∧ KeepsLink s t ∧ KeepsCache s t ∧ KeepsTables s t ∧ t.lif.reports = s.lif.reports) ∧
    (s.txe.job = some j → j.kind = .readAhead → atBoundary s = false →
      Leads .standbyTimerExpiry s fun t =>
        t.csq = departedCsq { noCauses with standby := true } .standby s.csq ∧
        t.txe.job = some j ∧ t.txe.yieldPending = true ∧ t.txe.departureWaits = true ∧ t.txe.op = s.txe.op ∧ t.sgc.flushTimer = none ∧
        KeepsMechanism s t ∧ KeepsLink s t ∧ KeepsCache s t ∧ KeepsTables s t ∧ t.lif.reports = s.lif.reports)

/-- GRACE_TIMER_EXPIRY in READY and FLUSH (R22) with an order executing takes the emergency path (R23): SPEED_LOST, the heads retracting, causes and eject
pending clear, fault hold and reason FAULT, UNLOAD, the executing order ended NOT_READY, the job ended at once, and every block kept. The report's
detail is the cylinder of a SEEK (R139), the block of a REASSIGN (R111), and none for every other order (the model's reading of R171, assumption 17),
and nothing is left of a STOP or EJECT that a link reset cut loose (assumption 37). A CALIBRATE whose pass has begun, no order executing and a label
write in the slot are not spoken of. -/
def Obligations.GraceExpiryTakesTheEmergencyPath : Prop :=
  ∀ (e : Executing) (s : State), s.csq.grace.isSome = true → (s.csq.lifecycle = .ready ∨ s.csq.lifecycle = .flush) →
    (s.svc.mode = .seek ∨ s.svc.mode = .settle ∨ s.svc.mode = .follow) → s.svc.cal.stage = .idle →
    s.lif.executing = some e → e.remnant = false → (e.stage = .waitPass → s.svc.cal.passOrder = none) → s.lif.orderQueue = [] →
    (∀ todo begun, jobWork s ≠ some (.label todo begun)) →
    Leads .graceTimerExpiry s fun t =>
      t.csq = { stillCsq .unload s.csq with
        ejectPending := false, ejectByButton := false, faultHold := true, stopReason := .fault, causes := noCauses, carried := none } ∧
      t.svc.mode = .retract ∧ t.svc.command = -60 ∧ t.svc.retractTimer = some 50000 ∧ t.svc.retractCause = .requested ∧
      t.svc.writePermission = false ∧ t.txe.job = none ∧ t.txe.op = none ∧ t.txe.gate = false ∧ heldBlocks t = heldBlocks s ∧
      t.txe.labelModified = s.txe.labelModified ∧ t.lif.executing = none ∧ t.lif.notices = s.lif.notices ||| 64#16 ∧
      t.lif.reports = s.lif.reports ++
        [{ tag := e.order.tag, kind := e.order.kind, outcome := .notReady, blocks := e.blocks, detail := e.order.kind.detail,
           lifecycle := .unload }] ∧
      t.spc = s.spc ∧ t.smn = s.smn ∧ t.pending = s.pending

/-! ### Events at the spindle -/

/-- SPIN_UP_TIMER_EXPIRY (R34, R10) in SPIN_UP with no order waiting: SPIN_FAULT, fault hold, reason FAULT, SPIN_DOWN, and the brake taken in COASTING
(R44). -/
def Obligations.SpinUpTimerFailsTheStart : Prop :=
  ∀ s : State, s.spc.spinUpTimer.isSome = true → s.csq.lifecycle = .spinUp → s.lif.executing = none →
    Leads .spinUpTimerExpiry s fun t =>
      t.csq = { stillCsq .spinDown s.csq with faultHold := true, stopReason := .fault } ∧
      t.spc.state = .braking ∧ t.spc.brakeLevel = 8 ∧ t.spc.brakingRound = 1 ∧ t.spc.driveEnable = false ∧ t.spc.spinUpTimer = none ∧
      t.spc.spinUpPending = false ∧ t.spc.phase = .idle ∧ t.spc.lastCheckConfirmed = false ∧
      t.lif.notices = s.lif.notices ||| 16#16 ∧ t.svc = s.svc ∧ t.smn = s.smn ∧ KeepsCache s t ∧ KeepsTables s t ∧ t.pending = s.pending

/-- INDEX_PULSE (R36, R37, R39): not counted in IDLE and TRACK; in ACQUIRE it opens a window, counts it down, and closes it with the time base as result;
the second in-band window in succession regains the lock and stops the grace (R22). The first lock of a start gains the lock, stops the spin-up timer
and, in SPIN_UP with the heads parked, enters HEAD_LOAD with the first load attempt (R10, R11, R68). -/
def Obligations.IndexPulsesMeasure : Prop :=
  ∀ s : State,
    (s.spc.phase = .idle ∨ s.spc.phase = .track → exec .indexPulse s = .next (finish s)) ∧
    (s.spc.phase = .acquire → s.spc.windowOpened = false →
      exec .indexPulse s = .next (finish { s with spc := { s.spc with timeBase := 0, pulseCounter := 4, windowOpened := true } })) ∧
    (s.spc.phase = .acquire → s.spc.windowOpened = true → 2 ≤ s.spc.pulseCounter →
      exec .indexPulse s = .next (finish { s with spc := { s.spc with pulseCounter := s.spc.pulseCounter - 1 } })) ∧
    (s.spc.phase = .acquire → s.spc.windowOpened = true → s.spc.pulseCounter = 1 →
      (s.spc.timeBase.toNat < 66001 ∨ 67333 < s.spc.timeBase.toNat) →
      exec .indexPulse s = .next (finish { s with spc := { s.spc with timeBase := 0, pulseCounter := 4, inBandRun := 0 } })) ∧
    (s.spc.phase = .acquire → s.spc.windowOpened = true → s.spc.pulseCounter = 1 →
      66001 ≤ s.spc.timeBase.toNat → s.spc.timeBase.toNat ≤ 67333 → s.spc.inBandRun = 0 →
      exec .indexPulse s = .next (finish { s with spc := { s.spc with timeBase := 0, pulseCounter := 4, inBandRun := 1 } })) ∧
    (s.spc.phase = .acquire → s.spc.windowOpened = true → s.spc.pulseCounter = 1 →
      66001 ≤ s.spc.timeBase.toNat → s.spc.timeBase.toNat ≤ 67333 → s.spc.inBandRun = 1 → s.spc.spinUpPending = false →
      exec .indexPulse s = .next (finish { s with
        spc := { s.spc with phase := .track, speedLock := true, timeBase := 95477#18, pulseCounter := 0, inBandRun := 0, outOfBandRun := 0 },
        csq := { s.csq with grace := none } })) ∧
    (s.spc.phase = .acquire → s.spc.windowOpened = true → s.spc.pulseCounter = 1 →
      66001 ≤ s.spc.timeBase.toNat → s.spc.timeBase.toNat ≤ 67333 → s.spc.inBandRun = 1 → s.spc.spinUpPending = true →
      s.csq.lifecycle = .spinUp → s.svc.mode = .parked →
      exec .indexPulse s = .next (finish { s with
        spc := { s.spc with phase := .track, speedLock := true, timeBase := 95477#18, pulseCounter := 0, inBandRun := 0, outOfBandRun := 0,
                            spinUpPending := false, spinUpTimer := none },
        csq := { stillCsq .headLoad s.csq with loadAttempts := 1, reloads := 0, returnState := .nowhere },
        svc := { s.svc with mode := .loading, command := 24, saturated := false, targetCylinder := 0, targetHead := 0, retryOffset := 0,
                            requester := .load, seekStatus := .noSeek, loadCount := 0, timeoutCount := 0, integrator := 0,
                            pos := { s.svc.pos with present := false, p := 0, v := 0, latestValid := false, latestWedge := none, missed := 0 } },
        sgc := stillSgc s.sgc }))

/-- TIME_BASE_OVERFLOW in ACQUIRE ends a stall window (R38): the window closed, the counters and the in-band run cleared, counting from 0, nothing told to
any block; the next index pulse opens a new window. Where the overflow and a window's closing pulse fall together, both orders end with the in-band
run 0 and one window open after the index pulse that follows. -/
def Obligations.StallWindowEnds : Prop :=
  ∀ s : State, s.spc.phase = .acquire →
    exec .timeBaseOverflow s =
      .next (finish { s with spc := { s.spc with windowOpened := false, pulseCounter := 0, inBandRun := 0, timeBase := 0 } }) ∧
    (∀ t, exec .timeBaseOverflow s = .next t →
      exec .indexPulse t = .next (finish { t with spc := { t.spc with timeBase := 0, pulseCounter := 4, windowOpened := true } })) ∧
    (s.spc.windowOpened = true → s.spc.pulseCounter = 1 → s.spc.timeBase = 262143#18 →
      ∃ t u v, exec .indexPulse s = .next t ∧ t.spc.pulseCounter = 4 ∧ t.spc.inBandRun = 0 ∧ exec .timeBaseOverflow t = .next u ∧
        u.spc.windowOpened = false ∧ exec .indexPulse u = .next v ∧ v.spc.inBandRun = 0 ∧ v.spc.windowOpened = true)

/-- COMMUTATION_PULSE (R40, R42): it counts in TRACK alone; the pulse that brings the counter to 250 loses the lock at once: lock clear, loss reported,
phase ACQUIRE with no window open and the counters cleared; in READY and FLUSH the CSQ starts its grace of 2 s (R22). A field in flight is then torn,
or its read abandoned, with one retry, the gate closed and the buffer port released (R130, R132, R136); the bytes of an abandoned read field's place
stay as they were (the model's choice, assumption 53). An overflow together with that pulse, taken after it, leaves the state as it was; taken before
it, the window ends out of band with 249, and the pulse is the first of the next. TIME_BASE_OVERFLOW in TRACK ends a window (R40, R41): a good one, of
238 to 242 pulses, clears the out-of-band run, and any other adds one to it; at the second the lock is lost in the same way. -/
def Obligations.OverspeedLosesTheLock : Prop :=
  ∀ (o : SectorOp) (s : State),
    (s.spc.phase ≠ .track → exec .commutationPulse s = .next (finish s)) ∧
    (s.spc.phase = .track → s.spc.pulseCounter < 249 →
      exec .commutationPulse s = .next (finish { s with spc := { s.spc with pulseCounter := s.spc.pulseCounter + 1 } })) ∧
    (s.spc.phase = .track → 249 ≤ s.spc.pulseCounter →
      commutationAct s =
        { state := { s with spc := { s.spc with
            phase := .acquire, speedLock := false, windowOpened := false, timeBase := 0, pulseCounter := 0, inBandRun := 0 } },
          signals := [.lockLost] } ∧
      ∀ t, exec .commutationPulse s = .next t → exec .timeBaseOverflow t = .next t) ∧
    (s.spc.phase = .track → 249 ≤ s.spc.pulseCounter → (s.csq.lifecycle = .ready ∨ s.csq.lifecycle = .flush) → s.csq.grace = none →
      (∀ u, s.txe.op = some u → u.phase ≠ .transferring) →
      exec .commutationPulse s = .next (finish { s with
        spc := { s.spc with phase := .acquire, speedLock := false, windowOpened := false, timeBase := 0, pulseCounter := 0, inBandRun := 0 },
        csq := { s.csq with grace := some 2000000 } })) ∧
    (s.spc.phase = .track → 249 ≤ s.spc.pulseCounter → (s.csq.lifecycle = .ready ∨ s.csq.lifecycle = .flush) → s.csq.grace = none →
      s.txe.op = some o → CanRetry o s → s.svc.mode = .follow →
      exec .commutationPulse s = .next (finish { s with
        spc := { s.spc with phase := .acquire, speedLock := false, windowOpened := false, timeBase := 0, pulseCounter := 0, inBandRun := 0 },
        csq := { s.csq with grace := some 2000000 }, txe := cutTxe o s.txe, sgc := portReleased s.sgc })) ∧
    (s.spc.phase = .track → s.spc.pulseCounter = 249 → s.spc.outOfBandRun = 0 →
      exec .timeBaseOverflow s =
        .next (finish { s with spc := { s.spc with timeBase := 95477#18, pulseCounter := 0, outOfBandRun := 1 } }) ∧
      ∀ t, exec .timeBaseOverflow s = .next t →
        exec .commutationPulse t = .next (finish { t with spc := { t.spc with pulseCounter := 1 } })) ∧
    (s.spc.phase = .track → 238 ≤ s.spc.pulseCounter → s.spc.pulseCounter ≤ 242 →
      exec .timeBaseOverflow s =
        .next (finish { s with spc := { s.spc with timeBase := 95477#18, pulseCounter := 0, outOfBandRun := 0 } })) ∧
    (s.spc.phase = .track → (s.spc.pulseCounter < 238 ∨ 242 < s.spc.pulseCounter) → s.spc.outOfBandRun = 0 →
      exec .timeBaseOverflow s =
        .next (finish { s with spc := { s.spc with timeBase := 95477#18, pulseCounter := 0, outOfBandRun := 1 } })) ∧
    (s.spc.phase = .track → (s.spc.pulseCounter < 238 ∨ 242 < s.spc.pulseCounter) → 1 ≤ s.spc.outOfBandRun →
      overflowAct s =
        { state := { s with spc := { s.spc with
            phase := .acquire, speedLock := false, windowOpened := false, timeBase := 0, pulseCounter := 0, inBandRun := 0,
            outOfBandRun := s.spc.outOfBandRun + 1 } },
          signals := [.lockLost] }) ∧
    (s.spc.phase = .track → (s.spc.pulseCounter < 238 ∨ 242 < s.spc.pulseCounter) → s.spc.outOfBandRun = 1 →
      (s.csq.lifecycle = .ready ∨ s.csq.lifecycle = .flush) → s.csq.grace = none → (∀ u, s.txe.op = some u → u.phase ≠ .transferring) →
      exec .timeBaseOverflow s = .next (finish { s with
        spc := { s.spc with
          phase := .acquire, speedLock := false, windowOpened := false, timeBase := 0, pulseCounter := 0, inBandRun := 0, outOfBandRun := 2 },
        csq := { s.csq with grace := some 2000000 } }))

/-- BRAKE_STEP_EXPIRY in BRAKING (R45): above level 1 the level falls by one and the timer starts again at the setting; at level 1 the round ends and a
stop check begins (R46). -/
def Obligations.BrakeStepsDown : Prop :=
  ∀ s : State, s.spc.state = .braking → s.spc.brakeStepTimer.isSome = true →
    (2 ≤ s.spc.brakeLevel →
      exec .brakeStepExpiry s = .next (finish { s with
        spc := { s.spc with brakeLevel := s.spc.brakeLevel - 1,
                            brakeStepTimer := some (if s.lif.settings.brakeSlow then 125000 else 62500) } })) ∧
    (s.spc.brakeLevel = 1 →
      exec .brakeStepExpiry s = .next (finish { s with
        spc := { s.spc with
          state := .checking, driveEnable := false, brakeLevel := 0, brakeStepTimer := none, phase := .stopCheck, speedLock := false,
          timeBase := 0, pulseCounter := 1, noRotationRun := 0 } }))

/-- CHECK_WAIT_EXPIRY and the stop check (R46 to R49): the wait ends in a new check, the braking round kept; a first quiet window opens the second; the
second confirms the stop, and the CSQ enters STOPPED (R17), with nothing left of a STOP cut loose by a link reset (assumption 37). An INDEX_PULSE in
the check has found rotation (R47): below round 3 the spindle brakes again from level 4; in round 3 it waits 5 s, and reports that rotation persists
once: SPIN_FAULT is latched, and a STOP or EJECT order attached to the stop ends SPIN_FAULT (R17; one that still waits after a failed start is
attached by assumption 38). -/
def Obligations.StopCheckConfirms : Prop :=
  ∀ (e : Executing) (option : Nat) (s : State),
    (s.spc.state = .waiting → s.spc.checkWaitTimer.isSome = true →
      exec .checkWaitExpiry s = .next (finish { s with
        spc := { s.spc with
          state := .checking, driveEnable := false, brakeLevel := 0, checkWaitTimer := none, phase := .stopCheck, speedLock := false,
          timeBase := 0, pulseCounter := 1, noRotationRun := 0 } })) ∧
    (s.spc.phase = .stopCheck → s.spc.noRotationRun = 0 →
      exec .timeBaseOverflow s = .next (finish { s with spc := { s.spc with timeBase := 0, pulseCounter := 1, noRotationRun := 1 } })) ∧
    (s.spc.phase = .stopCheck → s.spc.noRotationRun = 1 → s.csq.lifecycle = .spinDown → s.csq.ejectPending = false →
      s.csq.insertedDue = false → s.csq.stopReason ≠ .insert → s.lif.executing = none → s.csq.carried ≠ some .eject →
      exec .timeBaseOverflow s = .next (finish { s with
        spc := { s.spc with
          state := .still, driveEnable := false, brakeLevel := 0, phase := .idle, speedLock := false, timeBase := 0, noRotationRun := 2,
          lastCheckConfirmed := true, checkWaitTimer := none, brakingRound := 0, rotationReported := false },
        csq := { stillCsq .stopped s.csq with carried := none }, sgc := stillSgc s.sgc })) ∧
    (s.spc.phase = .stopCheck → s.spc.brakingRound < 3 →
      exec .indexPulse s = .next (finish { s with
        spc := { s.spc with
          state := .braking, driveEnable := false, brakeLevel := 4, phase := .idle, speedLock := false, pulseCounter := 0,
          brakingRound := s.spc.brakingRound + 1, brakeStepTimer := some (if s.lif.settings.brakeSlow then 125000 else 62500) } })) ∧
    (s.spc.phase = .stopCheck → 3 ≤ s.spc.brakingRound → s.spc.rotationReported = true →
      exec .indexPulse s = .next (finish { s with
        spc := { s.spc with
          state := .waiting, driveEnable := false, brakeLevel := 0, phase := .idle, speedLock := false, pulseCounter := 0,
          checkWaitTimer := some 5000000 } })) ∧
    (s.spc.phase = .stopCheck → 3 ≤ s.spc.brakingRound → s.spc.rotationReported = false → s.csq.lifecycle = .spinDown →
      (s.lif.executing = none →
        exec .indexPulse s = .next (finish { s with
          spc := { s.spc with
            state := .waiting, driveEnable := false, brakeLevel := 0, phase := .idle, speedLock := false, pulseCounter := 0,
            checkWaitTimer := some 5000000, rotationReported := true },
          csq := { s.csq with carried := none }, lif := { s.lif with notices := s.lif.notices ||| 16#16 } })) ∧
      (s.lif.executing = some e → e.remnant = false → (e.order.kind = .stop ∨ e.order.kind = .eject option) → s.lif.orderQueue = [] →
        Leads .indexPulse s fun t =>
          t.spc.state = .waiting ∧ t.spc.checkWaitTimer = some 5000000 ∧ t.spc.rotationReported = true ∧
          t.lif.notices = s.lif.notices ||| 16#16 ∧ t.lif.executing = none ∧
          t.lif.reports = s.lif.reports ++ [{ tag := e.order.tag, kind := e.order.kind, outcome := .spinFault, blocks := 0,
                                              detail := .noDetail, lifecycle := .spinDown }] ∧
          t.csq = { s.csq with carried := none } ∧ t.svc = s.svc ∧ t.smn = s.smn ∧ KeepsCache s t ∧ KeepsTables s t))

/-! ### Events at the servo -/

/-- A valid SERVO_SAMPLE (R55 to R57, R67, R80 to R87). In FOLLOW within 24 pu it updates the position record and the integrator, keeps FOLLOW, holds
write permission, and gives the command of the position law; beyond 24 pu it falls to SETTLE, beyond 256 to SEEK, the seek OUTSTANDING again. In SEEK
the velocity law commands, until 64 pu and 32 pu a sample enter SETTLE and the position law; in SETTLE the settle count runs, its fourth sample enters
FOLLOW and the requester TRANSFER's operation looks for its sector (R128), and beyond 256 pu SEEK begins again with the integrator cleared. In LOADING
the first valid sample opens the position record and starts the seek of the load target (R60, R69). -/
def Obligations.ValidSamplesCommand : Prop :=
  ∀ (r : ServoRecord) (o : SectorOp) (s : State), s.svc.pos.latestWedge ≠ some r.wedge →
    let e := sampleError r s.svc
    let v := sampleVelocity r s.svc
    let i := clamp (-8192) 8192 (s.svc.integrator + e)
    (s.txe.op = none → s.svc.mode = .follow → s.svc.cal.stage ≠ .gathering → sampleValid s.svc.pos r = true → e.natAbs ≤ 24 →
      exec (.servoSample r) s = .next (finish { s with svc := { byPositionLaw .follow r e v i s.svc with writePermission := true } })) ∧
    (s.txe.op = none → s.svc.mode = .follow → s.svc.cal.stage ≠ .gathering → sampleValid s.svc.pos r = true → 24 < e.natAbs → e.natAbs ≤ 256 →
      exec (.servoSample r) s = .next (finish { s with svc := { byPositionLaw .settle r e v i s.svc with
        writePermission := false, settleCount := 0, seekStatus := .outstanding, timeoutCount := 0 } })) ∧
    (s.txe.op = none → s.svc.mode = .follow → s.svc.cal.stage ≠ .gathering → sampleValid s.svc.pos r = true → 256 < e.natAbs →
      exec (.servoSample r) s = .next (finish { s with svc := { byVelocityLaw r e v s.svc with
        integrator := 0, settleCount := 0, seekStatus := .outstanding, timeoutCount := 0 } })) ∧
    (s.txe.op = none → s.svc.mode = .seek → sampleValid s.svc.pos r = true → SeekRuns s.svc → (64 < e.natAbs ∨ 32 < v.natAbs) →
      exec (.servoSample r) s = .next (finish { s with svc := { byVelocityLaw r e v s.svc with timeoutCount := s.svc.timeoutCount + 1 } })) ∧
    (s.txe.op = none → s.svc.mode = .seek → sampleValid s.svc.pos r = true → SeekRuns s.svc → e.natAbs ≤ 64 → v.natAbs ≤ 32 →
      exec (.servoSample r) s = .next (finish { s with
        svc := { settled 0 e (byPositionLaw .settle r e v i s.svc) with timeoutCount := s.svc.timeoutCount + 1 } })) ∧
    (s.txe.op = none → s.svc.mode = .settle → sampleValid s.svc.pos r = true → SeekRuns s.svc → e.natAbs ≤ 256 → s.svc.settleCount < 3 →
      exec (.servoSample r) s = .next (finish { s with
        svc := { settled s.svc.settleCount e (byPositionLaw .settle r e v i s.svc) with timeoutCount := s.svc.timeoutCount + 1 } })) ∧
    (s.txe.op = some o → o.phase = .positioning → o.target ≠ .seekOnly → s.svc.requester = .transfer → s.svc.seekStatus = .outstanding →
      s.svc.mode = .settle → sampleValid s.svc.pos r = true → e.natAbs ≤ 16 → (positionCommand r e v i s.svc).natAbs ≤ 127 →
      s.svc.settleCount = 3 →
      exec (.servoSample r) s = .next (finish { s with
        svc := { byPositionLaw .follow r e v i s.svc with settleCount := 0, writePermission := true, seekStatus := .onTrack },
        txe := { s.txe with op := some { o with phase := .looking } } })) ∧
    (s.txe.op = none → s.svc.mode = .settle → sampleValid s.svc.pos r = true → SeekRuns s.svc → 256 < e.natAbs →
      exec (.servoSample r) s = .next (finish { s with svc := { byVelocityLaw r e v s.svc with
        integrator := 0, settleCount := 0, timeoutCount := s.svc.timeoutCount + 1 } })) ∧
    (s.txe.op = none → s.svc.mode = .loading → recordGood r = true →
      (64 < e.natAbs →
        exec (.servoSample r) s = .next (finish { s with svc := { byVelocityLaw r e 0 s.svc with
          pos := { sampledPosition r 0 s.svc.pos with present := true }, loadCount := s.svc.loadCount + 1, seekStatus := .outstanding,
          settleCount := 0, timeoutCount := 1, integrator := 0 } })) ∧
      (e.natAbs ≤ 64 →
        exec (.servoSample r) s = .next (finish { s with svc := { settled 0 e (byPositionLaw .settle r e 0 e s.svc) with
          pos := { sampledPosition r 0 s.svc.pos with present := true }, loadCount := s.svc.loadCount + 1, seekStatus := .outstanding,
          timeoutCount := 1 } })))

/-- SERVO_SAMPLE (R51, R52, R58): disregarded in PARKED, RETRACT and LOST, and for a wedge already taken; a missed sample in FOLLOW, not the eighth, is
predicted and counted, withdraws write permission, and leaves the mode, the command and the integrator. A write field in flight is then torn, with one
retry (R132); a read field goes on (R130), its bytes stored at its end (the model's choice, assumption 53). The eighth in succession, with no sector
in work, enters LOST (R61, R72), with the requester and the seek status of a seek that is ON_TRACK kept (the model's choice, assumption 31); in
LOADING a sample that is not valid is counted (R69). -/
def Obligations.MissedSamplePredicts : Prop :=
  ∀ (r : ServoRecord) (o : SectorOp) (s : State),
    (s.txe.op = none → (s.svc.mode = .parked ∨ s.svc.mode = .retract ∨ s.svc.mode = .lost ∨ s.svc.pos.latestWedge = some r.wedge) →
      exec (.servoSample r) s = .next (finish s)) ∧
    (s.txe.op = none → s.svc.mode = .follow → s.svc.seekStatus = .onTrack → s.svc.pos.latestWedge ≠ some r.wedge →
      sampleValid s.svc.pos r = false → s.svc.pos.missed < 7 →
      exec (.servoSample r) s = .next (finish { s with svc := missedSvc r s.svc })) ∧
    (s.txe.op = some o → o.dir = .read → s.spc.speedLock = true → s.svc.mode = .follow → s.svc.seekStatus = .onTrack →
      s.svc.pos.latestWedge ≠ some r.wedge → sampleValid s.svc.pos r = false → s.svc.pos.missed < 7 →
      exec (.servoSample r) s = .next (finish { s with svc := missedSvc r s.svc })) ∧
    (s.txe.op = some o → o.dir = .write → CanRetry o s → s.svc.mode = .follow → s.svc.seekStatus = .onTrack →
      s.svc.pos.latestWedge ≠ some r.wedge → sampleValid s.svc.pos r = false → s.svc.pos.missed < 7 →
      exec (.servoSample r) s = .next (finish { s with svc := missedSvc r s.svc, txe := cutTxe o s.txe, sgc := portReleased s.sgc })) ∧
    (s.txe.op = none → s.svc.mode = .follow → s.svc.seekStatus = .onTrack → s.svc.pos.latestWedge ≠ some r.wedge →
      sampleValid s.svc.pos r = false → s.svc.pos.missed = 7 →
      exec (.servoSample r) s = .next (finish { s with svc := { missedSvc r s.svc with
        mode := .lost, retractCause := .lost, command := -60, saturated := false, retractTimer := some 50000 } })) ∧
    (s.txe.op = none → s.svc.mode = .loading → s.svc.pos.latestWedge ≠ some r.wedge → recordGood r = false → s.svc.loadCount < 199 →
      exec (.servoSample r) s = .next (finish { s with svc := { s.svc with
        loadCount := s.svc.loadCount + 1, pos := { s.svc.pos with latestWedge := some r.wedge } } }))

/-- LOAD_LIMIT_REACHED (R69) in LOADING and SEEK_TIMEOUT (R87) by requester, each timeout counted: a load ends in RETRACT with cause LOAD_FAILED;
requester NONE has its seek marked TIMED_OUT with no report; requester TRANSFER has its operation's seek begun again, at the first timeout (R128), and
a SEEK order's second ends it SEEK_ERROR (R139); the calibration pass fails its band and seeks the next (R96, R98). The two commands carry no sample:
they set the counts to 200 and 400 and leave the position record as it was (assumption 12), and TIMED_OUT is set for requester LOAD too (assumption
31). -/
def Obligations.LoadsAndSeeksTimeOut : Prop :=
  ∀ (o : SectorOp) (e : Executing) (cylinder head : Nat) (s : State),
    (s.svc.mode = .loading →
      exec .loadLimitReached s = .next (finish { s with
        svc := { s.svc with
          loadCount := 200, mode := .retract, retractCause := .loadFailed, command := -60, saturated := false, retractTimer := some 50000,
          writePermission := false } })) ∧
    (s.svc.seekStatus = .outstanding → (s.svc.mode = .seek ∨ s.svc.mode = .settle) → s.svc.requester = .nobody →
      exec .seekTimeout s = .next (finish { s with
        svc := { s.svc with timeoutCount := 400, seekErrors := min 65535 (s.svc.seekErrors + 1), seekStatus := .timedOut } })) ∧
    (s.svc.seekStatus = .outstanding → (s.svc.mode = .seek ∨ s.svc.mode = .settle) → s.svc.requester = .load →
      exec .seekTimeout s = .next (finish { s with
        svc := { s.svc with
          timeoutCount := 400, seekErrors := min 65535 (s.svc.seekErrors + 1), seekStatus := .timedOut, mode := .retract,
          retractCause := .loadFailed, command := -60, saturated := false, retractTimer := some 50000, writePermission := false } })) ∧
    (s.svc.seekStatus = .outstanding → (s.svc.mode = .seek ∨ s.svc.mode = .settle) → s.svc.requester = .transfer →
      s.txe.op = some o → o.phase = .positioning → o.seekFailures = 0 → s.svc.targetCylinder = o.cylinder → s.svc.targetHead = o.head →
      s.svc.retryOffset = ladderOffset o.retries →
      exec .seekTimeout s = .next (finish { s with
        svc := { s.svc with
          timeoutCount := 0, seekErrors := min 65535 (s.svc.seekErrors + 1), seekStatus := .outstanding, mode := .seek, integrator := 0,
          settleCount := 0, writePermission := false },
        txe := { s.txe with op := some { o with seekFailures := 1 } } })) ∧
    (s.svc.seekStatus = .outstanding → (s.svc.mode = .seek ∨ s.svc.mode = .settle) → s.svc.requester = .transfer →
      s.txe.op = some o → o.phase = .positioning → o.seekFailures = 1 → s.txe.job = some (orderJob .seek) →
      s.lif.executing = some e → e.remnant = false → e.order.kind = .seek cylinder head → NothingWaits s → s.sgc.flushWanted = false →
      Leads .seekTimeout s fun t =>
        t.txe.job = none ∧ t.txe.op = none ∧ t.lif.executing = none ∧
        t.lif.reports = s.lif.reports ++ [{ tag := e.order.tag, kind := e.order.kind, outcome := .seekError, blocks := e.blocks,
                                            detail := .cylinder cylinder, lifecycle := .ready }] ∧
        t.svc = { s.svc with timeoutCount := 400, seekErrors := min 65535 (s.svc.seekErrors + 1), seekStatus := .timedOut } ∧
        t.csq = s.csq ∧ t.spc = s.spc ∧ t.smn = s.smn ∧ KeepsTables s t ∧ heldBlocks t = heldBlocks s) ∧
    (s.svc.seekStatus = .outstanding → (s.svc.mode = .seek ∨ s.svc.mode = .settle) → s.svc.requester = .calibration →
      s.svc.cal.stage = .seeking → s.svc.cal.band < 7 → s.svc.targetCylinder = 150 * s.svc.cal.band + 75 →
      exec .seekTimeout s = .next (finish { s with
        svc := { s.svc with
          timeoutCount := 0, seekErrors := min 65535 (s.svc.seekErrors + 1), seekStatus := .outstanding, mode := .seek, integrator := 0,
          settleCount := 0, writePermission := false, targetCylinder := 150 * (s.svc.cal.band + 1) + 75, targetHead := 0, retryOffset := 0,
          cal := { s.svc.cal with band := s.svc.cal.band + 1, gathered := 0, bandSum := 0, falls := 0 } } }))

/-- LOST_CONDITION (R61, R72): with no sector in work, the heads retract with cause LOST; a seek that is not OUTSTANDING keeps its requester and its
status (the model's choice, assumption 31), and an OUTSTANDING seek is cut off and counted, and left with no requester. The command sets the missed
count to 8 and predicts and counts no sample (assumption 12). RETRACT_TIMER_EXPIRY (R73) in UNLOAD: the heads are PARKED, the position record is
cleared, and the CSQ goes on to SPIN_DOWN with the brake (R17), which gives up the speed lock of an ordinary stop (R44). -/
def Obligations.LostHeadsArePutAway : Prop :=
  ∀ s : State,
    ((s.svc.mode = .seek ∨ s.svc.mode = .settle ∨ s.svc.mode = .follow) → s.svc.seekStatus ≠ .outstanding → s.txe.op = none →
      exec .lostCondition s = .next (finish { s with
        svc := { s.svc with
          mode := .lost, retractCause := .lost, command := -60, saturated := false, retractTimer := some 50000, writePermission := false,
          pos := { s.svc.pos with missed := 8 } } })) ∧
    ((s.svc.mode = .seek ∨ s.svc.mode = .settle) → s.svc.seekStatus = .outstanding → s.txe.op = none → s.svc.cal.stage = .idle →
      exec .lostCondition s = .next (finish { s with
        svc := { s.svc with
          mode := .lost, retractCause := .lost, command := -60, saturated := false, retractTimer := some 50000, writePermission := false,
          pos := { s.svc.pos with missed := 8 }, requester := .nobody, seekStatus := .noSeek,
          seekErrors := min 65535 (s.svc.seekErrors + 1) } })) ∧
    (s.svc.retractTimer.isSome = true → s.svc.mode = .retract → s.csq.lifecycle = .unload → s.spc.state = .driving →
      Leads .retractTimerExpiry s fun t =>
        t.svc.mode = .parked ∧ t.svc.command = -8 ∧ t.svc.pos.present = false ∧ t.svc.settleCount = 0 ∧ t.svc.timeoutCount = 0 ∧
        t.svc.loadCount = 0 ∧ t.svc.integrator = s.svc.integrator ∧ t.svc.retractTimer = none ∧ t.csq = stillCsq .spinDown s.csq ∧
        t.spc.state = .braking ∧ t.spc.brakeLevel = 8 ∧ t.spc.brakingRound = 1 ∧ t.spc.driveEnable = false ∧ t.spc.phase = .idle ∧
        t.spc.speedLock = false ∧ t.smn = s.smn ∧ KeepsCache s t ∧ KeepsTables s t ∧ t.lif.reports = s.lif.reports ∧ t.pending = s.pending)

/-! ### Events at the medium -/

/-- SECTOR_MARK in LOOKING (R129 to R131, R133, R137): disregarded without the speed lock; another sector of the track passes; a failed header below the
retry limit costs a retry; the wanted sector of a READ with a place begins its field; the wanted sector of a WRITE waits under write hold, and opens
the gate when all conditions hold. -/
def Obligations.SectorMarksAreTaken : Prop :=
  ∀ (h : SectorHeader) (o : SectorOp) (n i : Nat) (s : State), s.txe.op = some o → o.phase = .looking → o.target = .block n →
    (s.spc.speedLock = false → exec (.sectorMark h) s = .next (finish s)) ∧
    (s.spc.speedLock = true → s.svc.mode = .follow → h.checkGood = true → h.cylinder = o.cylinder → h.head = o.head → h.sector ≠ o.sector →
      exec (.sectorMark h) s = .next (finish s)) ∧
    (s.spc.speedLock = true → s.svc.mode = .follow → h.checkGood = false → o.retries < s.lif.settings.retryLimit →
      ladderOffset (o.retries + 1) = ladderOffset o.retries → s.txe.endPending = .no → s.txe.yieldPending = false →
      exec (.sectorMark h) s = .next (finish { s with
        txe := { s.txe with op := some { o with retries := o.retries + 1 }, retryCounter := min 65535 (s.txe.retryCounter + 1) } })) ∧
    (s.spc.speedLock = true → s.svc.mode = .follow → h = ⟨o.cylinder, o.head, o.sector, true⟩ → o.dir = .read →
      findWindow (windowBase n) s = some i → blockValid n s = false →
      exec (.sectorMark h) s = .next (finish { s with
        txe := { s.txe with op := some { o with phase := .transferring } },
        sgc := { s.sgc with mediaPort := true, linkPort := if s.sgc.linkPort = .active then .suspended else s.sgc.linkPort } })) ∧
    (s.spc.speedLock = true → s.svc.mode = .follow → h = ⟨o.cylinder, o.head, o.sector, true⟩ → o.dir = .write → writeHold s = true →
      s.txe.holdTimer = none →
      exec (.sectorMark h) s = .next (finish { s with txe := { s.txe with holdTimer := some 10000000 } })) ∧
    (gateAllowed s = true → h = ⟨o.cylinder, o.head, o.sector, true⟩ → o.dir = .write →
      Leads (.sectorMark h) s fun t =>
        t.txe.gate = true ∧ t.txe.op = some { o with phase := .transferring } ∧ t.sgc.mediaPort = true ∧ KeepsMechanism s t ∧
        KeepsCache s t ∧ KeepsTables s t ∧ t.csq = s.csq ∧ t.lif.reports = s.lif.reports)

/-- READ_FIELD_END (R130): a bad field costs a retry and adds nothing to the valid set. A good field of a READ order is stored in the block's place, joins
the valid set, and leaves the dirty sets alone, and the job has read from the medium from then on (R146): after the last block it does no further
media work, and before that the sector operation of the next block is created where R107 and R108 put it (R144). -/
def Obligations.ReadFieldsEnd : Prop :=
  ∀ (data : List Byte) (o : SectorOp) (n i first count q : Nat) (medium : Bool) (e : Executing) (s : State), s.txe.op = some o →
    o.phase = .transferring → o.dir = .read → o.target = .block n → findWindow (windowBase n) s = some i → s.txe.endPending = .no →
    s.txe.yieldPending = false →
    (o.retries < s.lif.settings.retryLimit → ladderOffset (o.retries + 1) = ladderOffset o.retries →
      Leads (.readFieldEnd data false) s fun t =>
        t.txe.op = some { o with retries := o.retries + 1, phase := .looking } ∧ t.txe.retryCounter = min 65535 (s.txe.retryCounter + 1) ∧
        t.sgc.segments = s.sgc.segments ∧ t.sgc.mediaPort = false ∧ t.txe.job = s.txe.job ∧ KeepsMechanism s t ∧ KeepsTables s t ∧
        t.csq = s.csq ∧ t.lif.reports = s.lif.reports) ∧
    (s.lif.executing = some e → e.order.kind = .read first count → n = first + q → s.txe.job = some (orderJob (.read q medium [] none)) →
      i < s.sgc.segments.length → data.length = 512 →
      (q + 1 = count →
        Leads (.readFieldEnd data true) s fun t =>
          t.txe.op = none ∧ t.txe.job = some (orderJob (.read count true [] none)) ∧
          (segmentAt t i).valid = insertNat (n % 16) (segmentAt s i).valid ∧ (segmentAt t i).dirty = (segmentAt s i).dirty ∧
          (∀ k, k ≠ i → segmentAt t k = segmentAt s k) ∧ t.sgc.buffer = writeBytes s.sgc.buffer (8192 * i + 512 * (n % 16)) data ∧
          t.sgc.mediaPort = false ∧ t.txe.jobRecovered = (s.txe.jobRecovered || decide (0 < o.retries)) ∧
          KeepsMechanism s t ∧ KeepsTables s t ∧ t.csq = s.csq ∧ t.lif.executing = s.lif.executing ∧ t.lif.reports = s.lif.reports) ∧
      (q + 1 < count → (n + 1) % 16 ≠ 0 → (segmentAt s i).attachment = .order → (n + 1) % 16 ∉ (segmentAt s i).valid →
        s.svc.cal.stage = .idle →
        Leads (.readFieldEnd data true) s fun t =>
          WorksOn (.block (n + 1)) .read (mapBlock s.txe (n + 1)) t ∧ t.txe.job = some (orderJob (.read (q + 1) true [] none)) ∧
          segmentAt t i = { segmentAt s i with valid := insertNat (n % 16) (segmentAt s i).valid } ∧
          (∀ k, k ≠ i → segmentAt t k = segmentAt s k) ∧ t.sgc.buffer = writeBytes s.sgc.buffer (8192 * i + 512 * (n % 16)) data ∧
          t.sgc.mediaPort = false ∧ t.txe.jobRecovered = (s.txe.jobRecovered || decide (0 < o.retries)) ∧ t.spc = s.spc ∧ t.smn = s.smn ∧
          KeepsTables s t ∧ t.csq = s.csq ∧ t.lif.executing = s.lif.executing ∧ t.lif.reports = s.lif.reports))

/-- WRITE_FIELD_END (R131): the gate is closed, and the sector's bytes have gone out. At the last dirty block of a WRITE's flush for allocation (R152,
R153) and of a write-through WRITE's flush of a window (R151) the block leaves the dirty set and stays valid, and the segment is released with its
recency unchanged; written through, the block is counted, and with every block of the order placed and no window left the order ends DONE, or
RECOVERED after a retry. At a label sector (R118) the next of sectors 1, 2 and 0 is sought; after the third the record is the one written, the label
VALID and label modified clear, whatever end or yield is pending, and a COMMIT_LABEL ends DONE or RECOVERED (R119), with detail none (the model's
reading, assumption 17), while in FLUSH the departure flush is complete (R16, R120) and the heads retract, the requester and the seek status of a seek
that is not OUTSTANDING kept (the model's choice, assumption 31). -/
def Obligations.WriteFieldsEnd : Prop :=
  ∀ (o : SectorOp) (n i k m option first count : Nat) (todo : List Nat) (begun : Bool) (j : Job) (e : Executing) (s : State),
    s.txe.op = some o → o.phase = .transferring → o.dir = .write →
    (o.target = .block n → findWindow (windowBase n) s = some i → i < s.sgc.segments.length → (segmentAt s i).dirty = [n % 16] →
      s.txe.endPending = .no → s.txe.yieldPending = false →
      (s.txe.job = some { orderJob (.write false []) with flushing := some i } →
        Leads .writeFieldEnd s fun t =>
          t.txe.op = none ∧ t.txe.gate = false ∧ t.sgc.mediaPort = false ∧
          t.txe.sentField = some { cylinder := o.cylinder, head := o.head, sector := o.sector,
                                   data := readBytes s.sgc.buffer (8192 * i + 512 * (n % 16)) 512 } ∧
          segmentAt t i = { segmentAt s i with dirty := [], attachment := .free } ∧ (∀ k, k ≠ i → segmentAt t k = segmentAt s k) ∧
          t.sgc.recency = s.sgc.recency ∧ t.sgc.buffer = s.sgc.buffer ∧ t.txe.jobRecovered = (s.txe.jobRecovered || decide (0 < o.retries)) ∧
          KeepsMechanism s t ∧ KeepsTables s t ∧ t.csq = s.csq ∧ t.lif.reports = s.lif.reports) ∧
      (s.txe.job = some { orderJob (.write true []) with flushing := some i } → s.lif.executing = some e →
        e.order.kind = .write first count → first ≤ n → n < first + s.lif.expectedIndex →
        (s.lif.expectedIndex < count →
          Leads .writeFieldEnd s fun t =>
            t.txe.op = none ∧ t.txe.gate = false ∧ t.sgc.mediaPort = false ∧ t.txe.job = some (orderJob (.write true [])) ∧
            t.lif.executing = some { e with blocks := e.blocks + 1 } ∧
            t.txe.sentField = some { cylinder := o.cylinder, head := o.head, sector := o.sector,
                                     data := readBytes s.sgc.buffer (8192 * i + 512 * (n % 16)) 512 } ∧
            segmentAt t i = { segmentAt s i with dirty := [], attachment := .free } ∧ (∀ k, k ≠ i → segmentAt t k = segmentAt s k) ∧
            t.sgc.recency = s.sgc.recency ∧ t.sgc.buffer = s.sgc.buffer ∧
            t.txe.jobRecovered = (s.txe.jobRecovered || decide (0 < o.retries)) ∧
            KeepsMechanism s t ∧ KeepsTables s t ∧ t.csq = s.csq ∧ t.lif.reports = s.lif.reports) ∧
        (count ≤ s.lif.expectedIndex → e.remnant = false → NothingWaits s → s.sgc.flushWanted = false →
          Leads .writeFieldEnd s fun t =>
            t.txe.op = none ∧ t.txe.gate = false ∧ t.sgc.mediaPort = false ∧ t.txe.job = none ∧ t.lif.executing = none ∧
            t.lif.reports = s.lif.reports ++
              [{ tag := e.order.tag, kind := .write first count,
                 outcome := if s.txe.jobRecovered || decide (0 < o.retries) then .recovered else .done, blocks := e.blocks + 1,
                 detail := .noDetail, lifecycle := .ready }] ∧
            segmentAt t i = { segmentAt s i with dirty := [], attachment := .free } ∧
            (∀ k, k ≠ i → segmentAt t k = freed (segmentAt s k)) ∧ t.sgc.recency = s.sgc.recency ∧ t.sgc.buffer = s.sgc.buffer ∧
            KeepsMechanism s t ∧ KeepsTables s t ∧ t.csq = s.csq))) ∧
    (o.target = .label k → s.txe.job = some j → j.kind ≠ .labelRead → j.work = .label (k :: m :: todo) begun → j.flushing = none →
      j.suspended = none → s.svc.cal.stage = .idle → s.txe.endPending = .no → s.txe.yieldPending = false →
      Leads .writeFieldEnd s fun t =>
        t.txe.job = some { j with work := .label (m :: todo) begun } ∧
        WorksOn (.label m) .write { cylinder := 0, head := 0, sector := m } t ∧ t.txe.gate = false ∧
        t.txe.sentField = some { cylinder := o.cylinder, head := o.head, sector := o.sector, data := s.txe.labelStore.getD k [] } ∧
        t.spc = s.spc ∧ t.smn = s.smn ∧ KeepsCache s t ∧ KeepsTables s t ∧ t.csq = s.csq ∧ t.lif.executing = s.lif.executing ∧
        t.lif.reports = s.lif.reports) ∧
    (o.target = .label 0 → s.txe.job = some (orderJob (.label [0] begun)) → s.lif.executing = some e → e.remnant = false →
      e.order.kind = .commitLabel option → NothingWaits s → s.sgc.flushWanted = false →
      Leads .writeFieldEnd s fun t =>
        t.txe.labelStatus = .valid ∧ t.txe.record = some (recordOf (s.txe.labelStore.getD 0 [])) ∧ t.txe.labelModified = false ∧
        t.txe.defects = s.txe.defects ∧ t.txe.zones = s.txe.zones ∧
        t.txe.sentField = some { cylinder := o.cylinder, head := o.head, sector := o.sector, data := s.txe.labelStore.getD 0 [] } ∧
        t.txe.job = none ∧ t.txe.op = none ∧ t.txe.gate = false ∧ t.lif.executing = none ∧
        t.lif.reports = s.lif.reports ++
          [{ tag := e.order.tag, kind := .commitLabel option,
             outcome := if s.txe.jobRecovered || decide (0 < o.retries) then .recovered else .done, blocks := e.blocks,
             detail := .noDetail, lifecycle := .ready }] ∧
        heldBlocks t = heldBlocks s ∧ t.sgc.buffer = s.sgc.buffer ∧ KeepsMechanism s t ∧ t.csq = s.csq) ∧
    (o.target = .label 0 → s.txe.job = some { flushJob .departure with work := .label [0] begun } → s.csq.lifecycle = .flush → OnTrack s →
      s.lif.executing = none →
      Leads .writeFieldEnd s fun t =>
        t.txe.labelStatus = .valid ∧ t.txe.record = some (recordOf (s.txe.labelStore.getD 0 [])) ∧ t.txe.labelModified = false ∧
        t.txe.defects = s.txe.defects ∧ t.txe.zones = s.txe.zones ∧ t.txe.job = none ∧ t.txe.op = none ∧ t.txe.gate = false ∧
        t.csq = { stillCsq .unload s.csq with causes := noCauses } ∧ t.svc = retractedSvc s.svc ∧ t.spc = s.spc ∧ t.smn = s.smn ∧
        heldBlocks t = heldBlocks s ∧ t.sgc.buffer = s.sgc.buffer ∧ t.lif.reports = s.lif.reports)

/-- PARITY_ERROR (R132, R158). On the media side the block being written leaves both sets and is lost, counted, named and notified; the gate closes with
no retry counted, and the job goes on. On the link side the DATA_IN frame ends with a CRC that does not match; a clean block leaves its valid set and
is read again, before anything else of the READ (the order is the model's, assumption 20); a dirty block is lost, and the READ ends DATA_ERROR at it
with the blocks delivered before, at once even with a field in flight (assumption 22). -/
def Obligations.ParityLosesTheBlock : Prop :=
  ∀ (o : SectorOp) (n i tag first count p m at_ : Nat) (s : State), findWindow (windowBase n) s = some i → i < s.sgc.segments.length →
    s.txe.endPending = .no → s.txe.yieldPending = false →
    (s.txe.op = some o → o.phase = .transferring → o.dir = .write → o.target = .block n → (segmentAt s i).dirty = [n % 16] →
      s.txe.job = some { orderJob (.write false []) with flushing := some i } →
      Leads (.parityError .media at_) s fun t =>
        t.txe.op = none ∧ t.txe.gate = false ∧ t.txe.retryCounter = s.txe.retryCounter ∧ t.sgc.mediaPort = false ∧
        (segmentAt t i).dirty = [] ∧ (segmentAt t i).valid = eraseNat (n % 16) (segmentAt s i).valid ∧
        (∀ k, k ≠ i → segmentAt t k = segmentAt s k) ∧ t.sgc.lostBlocks = min 65535 (s.sgc.lostBlocks + 1) ∧ t.sgc.lastLost = some n ∧
        t.lif.notices = s.lif.notices ||| 1024#16 ∧ t.sgc.buffer = s.sgc.buffer ∧ (t.txe.job.map fun j => j.flushing) = some none ∧
        KeepsMechanism s t ∧ KeepsTables s t ∧ t.csq = s.csq ∧ t.lif.reports = s.lif.reports) ∧
    (s.lif.exchange = .block p → n = first + p →
      s.lif.executing = some { order := { tag := tag, kind := .read first count }, remnant := false, stage := .inSlot, blocks := p } →
      (s.txe.op = none → s.svc.cal.stage = .idle → (segmentAt s i).attachment = .order → n % 16 ∉ (segmentAt s i).dirty →
        s.txe.job = some (orderJob (.read m true [] none)) →
        Leads (.parityError .link at_) s fun t =>
          SpoiledAfter ((frameBody 0x82 s.lif.driveAddress tag p (readBytes s.sgc.buffer (8192 * i + 512 * (n % 16)) 512)).take (6 + at_)) t ∧
          t.lif.exchange = .spoiled ∧ segmentAt t i = { segmentAt s i with valid := eraseNat (n % 16) (segmentAt s i).valid } ∧
          (∀ k, k ≠ i → segmentAt t k = segmentAt s k) ∧ WorksOn (.block n) .read (mapBlock s.txe n) t ∧
          t.lif.executing = s.lif.executing ∧ t.sgc.lostBlocks = s.sgc.lostBlocks ∧ t.lif.notices = s.lif.notices ∧
          t.sgc.buffer = s.sgc.buffer ∧ KeepsTables s t ∧ t.csq = s.csq ∧ t.spc = s.spc ∧ t.smn = s.smn ∧ t.lif.reports = s.lif.reports) ∧
      (n % 16 ∈ (segmentAt s i).dirty → s.txe.job = some (orderJob (.read m true [] none)) → NothingWaits s → s.sgc.flushWanted = false →
        Leads (.parityError .link at_) s fun t =>
          SpoiledAfter ((frameBody 0x82 s.lif.driveAddress tag p (readBytes s.sgc.buffer (8192 * i + 512 * (n % 16)) 512)).take (6 + at_)) t ∧
          (segmentAt t i).dirty = eraseNat (n % 16) (segmentAt s i).dirty ∧ (segmentAt t i).valid = eraseNat (n % 16) (segmentAt s i).valid ∧
          t.sgc.lostBlocks = min 65535 (s.sgc.lostBlocks + 1) ∧ t.sgc.lastLost = some n ∧ t.lif.notices = s.lif.notices ||| 1024#16 ∧
          t.txe.job = none ∧ t.lif.executing = none ∧
          t.lif.reports = s.lif.reports ++ [{ tag := tag, kind := .read first count, outcome := .dataError, blocks := p, detail := .block n,
                                              lifecycle := .ready }] ∧
          KeepsMechanism s t ∧ KeepsTables s t ∧ t.csq = s.csq))

/-- HOLD_WAIT_EXPIRY (R133, R135, R155): a FLUSH order whose sector has waited out write hold ends HELD at that block, with the blocks written before it;
the block stays dirty. FLUSH_DELAY_EXPIRY (R154): while a job holds the slot, flush wanted becomes set if a block is dirty, and no flush begins; with
the slot empty in READY the background flush begins on the lowest dirty block, and with nothing dirty nothing begins. -/
def Obligations.HoldWaitAndFlushDelayExpire : Prop :=
  ∀ (o : SectorOp) (n : Nat) (e : Executing) (s : State),
    (s.txe.holdTimer.isSome = true → s.txe.op = some o → o.target = .block n → s.txe.job = some (orderJob .flush) →
      s.lif.executing = some e → e.remnant = false → e.order.kind = .flush → NothingWaits s → s.sgc.flushWanted = false →
      Leads .holdWaitExpiry s fun t =>
        t.txe.op = none ∧ t.txe.job = none ∧ t.txe.holdTimer = none ∧ t.lif.executing = none ∧
        t.lif.reports = s.lif.reports ++
          [{ tag := e.order.tag, kind := .flush, outcome := .held, blocks := e.blocks, detail := .block n, lifecycle := .ready }] ∧
        heldBlocks t = heldBlocks s ∧ t.sgc.buffer = s.sgc.buffer ∧ t.txe.retryCounter = s.txe.retryCounter ∧ t.csq = s.csq ∧
        KeepsMechanism s t ∧ KeepsLink s t ∧ KeepsTables s t) ∧
    (s.sgc.flushTimer.isSome = true → s.txe.job.isSome = true →
      exec .flushDelayExpiry s = .next (finish { s with
        sgc := { s.sgc with flushTimer := none, flushWanted := s.sgc.flushWanted || decide (dirtyCount s ≠ 0) } })) ∧
    (s.sgc.flushTimer.isSome = true → s.txe.job = none → s.csq.lifecycle = .ready → s.txe.orderWaits = false → s.txe.departureWaits = false →
      s.svc.cal.due = false → s.svc.cal.stage = .idle → CacheSound s → LeastDirty n s →
      Leads .flushDelayExpiry s fun t =>
        t.txe.job = some (flushJob .background) ∧ WorksOn (.block n) .write (mapBlock s.txe n) t ∧ t.sgc.flushTimer = none ∧
        t.sgc.flushWanted = false ∧ heldBlocks t = heldBlocks s ∧ t.sgc.buffer = s.sgc.buffer ∧ t.csq = s.csq ∧ t.spc = s.spc ∧
        t.smn = s.smn ∧ KeepsLink s t ∧ KeepsTables s t ∧ t.lif.executing = s.lif.executing ∧ t.lif.reports = s.lif.reports) ∧
    (s.sgc.flushTimer.isSome = true → s.txe.job = none → s.sgc.flushWanted = false → dirtyCount s = 0 →
      exec .flushDelayExpiry s = .next (finish { s with sgc := { s.sgc with flushTimer := none } }))

/-! ### Monitor readings -/

/-- MONITOR_READING. A reading in range on an armed channel with no condition is recorded and ends the run (R159, R163); on a channel that is not armed
the run is cleared (R163). A reading that completes a run activates the condition of its side, sets the fault flag and latches MONITOR (R164): RETRACT
in STOPPED moves nothing and shuts the spin-up gate (R9, R24); HOLD_WRITES imposes write hold and latches WRITE_HOLD (R167), and tears a write field
in flight (R132); PARK in READY, with an order's job in the slot, leaves for FLUSH with reason FAULT (R15, R24, R166), the causes becoming PARK alone,
whatever a state of READY held before (assumption 28). A condition counts its readings in range and ends at the second (R165): write hold ends and the
hold wait stops (R133); the spin-up gate opens, and a spin-up asked for begins (R9, R33). A TEMP reading in READY that differs by 8 or more from the
calibration temperature makes calibration due (R94, R168), and with the slot empty CALIBRATE is entered and the pass begins (R13, R95, R96). The first
IACT reading is compared (the model's choice of order, assumption 15), completes the round (R160), and a spin-up asked for begins (R9). -/
def Obligations.MonitorReadingsAct : Prop :=
  ∀ (reading x : Nat) (j : Job) (o : SectorOp) (s : State),
    ((s.smn.slot = .v12 ∨ s.smn.slot = .v5 ∨ s.smn.slot = .ispin ∨ (s.smn.slot = .iact ∧ s.smn.roundComplete = true) ∨
        (s.smn.slot = .temp ∧ (s.csq.lifecycle ≠ .ready ∨ drifted reading s.svc.cal.temperature = false ∨ s.svc.cal.due = true))) →
      (channel s s.smn.slot).limits.armed = .always →
      (channel s s.smn.slot).limits.low ≤ reading → reading ≤ (channel s s.smn.slot).limits.high →
      ((channel s s.smn.slot).active = .neither →
        exec (.monitorReading reading) s = .next (finish
          (modChannel s.smn.slot (fun r => { r with latest := reading, runSide := .neither, runCount := 0 })
            { s with smn := { s.smn with slot := s.smn.slot.next, slotTimer := 20000 } }))) ∧
      ((channel s s.smn.slot).active ≠ .neither → (channel s s.smn.slot).inRange = 0 →
        exec (.monitorReading reading) s = .next (finish
          (modChannel s.smn.slot (fun r => { r with latest := reading, runSide := .neither, runCount := 0, inRange := 1 })
            { s with smn := { s.smn with slot := s.smn.slot.next, slotTimer := 20000 } })))) ∧
    (armedIn (channel s s.smn.slot).limits.armed s.csq.lifecycle = false → (channel s s.smn.slot).active = .neither →
      s.csq.lifecycle ≠ .ready → (s.smn.slot = .iact → s.smn.roundComplete = true) →
      exec (.monitorReading reading) s = .next (finish
        (modChannel s.smn.slot (fun r => { r with latest := reading, runSide := .neither, runCount := 0, inRange := 0 })
          { s with smn := { s.smn with slot := s.smn.slot.next, slotTimer := 20000 } }))) ∧
    (s.smn.slot = .v5 → s.csq.lifecycle = .stopped → s.smn.v5.limits.armed = .always → s.smn.v5.active = .neither →
      s.smn.v5.limits.lowAction = .retract → s.smn.v5.limits.lowPersistence = 1 → s.smn.v5.runSide = .neither →
      reading < s.smn.v5.limits.low →
      Leads (.monitorReading reading) s fun t =>
        t.smn.v5 = { s.smn.v5 with latest := reading, runSide := .low, runCount := 1, active := .low, inRange := 0, lowFault := true } ∧
        gateShut t = true ∧ t.lif.notices = s.lif.notices ||| 256#16 ∧ t.csq = s.csq ∧ t.spc = s.spc ∧ t.svc = s.svc ∧ t.sgc = s.sgc) ∧
    (s.smn.slot = .temp → (s.csq.lifecycle ≠ .ready ∨ drifted reading s.svc.cal.temperature = false) → s.smn.temp.limits.armed = .always →
      s.smn.temp.active = .neither → s.smn.temp.limits.highAction = .holdWrites → s.smn.temp.limits.highPersistence = 4 →
      s.smn.temp.runSide = .high → s.smn.temp.runCount = 3 → s.smn.temp.limits.low ≤ reading → s.smn.temp.limits.high < reading →
      (s.txe.op = none →
        Leads (.monitorReading reading) s fun t =>
          t.smn.temp = { s.smn.temp with latest := reading, runCount := 4, active := .high, inRange := 0, highFault := true } ∧
          writeHold t = true ∧ t.lif.notices = (s.lif.notices ||| 256#16) ||| 512#16 ∧ t.csq = s.csq ∧ t.spc = s.spc ∧ t.svc = s.svc ∧
          t.sgc = s.sgc) ∧
      (s.txe.op = some o → o.dir = .write → CanRetry o s → s.svc.mode = .follow →
        Leads (.monitorReading reading) s fun t =>
          writeHold t = true ∧ t.txe = cutTxe o s.txe ∧ t.sgc = portReleased s.sgc ∧
          t.lif.notices = (s.lif.notices ||| 256#16) ||| 512#16 ∧ t.csq = s.csq ∧ t.spc = s.spc ∧ t.svc = s.svc)) ∧
    (s.smn.slot = .ispin → s.csq.lifecycle = .ready → passTag s = none → s.txe.job = some j → j.kind = .order →
      (s.smn.ispin.limits.armed = .always ∨ s.smn.ispin.limits.armed = .ready) → s.smn.ispin.active = .neither →
      s.smn.ispin.limits.highAction = .park → s.smn.ispin.limits.highPersistence = 1 → s.smn.ispin.runSide = .neither →
      s.smn.ispin.limits.low ≤ reading → s.smn.ispin.limits.high < reading →
      Leads (.monitorReading reading) s fun t =>
        t.smn.ispin = { s.smn.ispin with latest := reading, runSide := .high, runCount := 1, active := .high, inRange := 0, highFault := true } ∧
        gateShut t = true ∧ t.lif.notices = s.lif.notices ||| 256#16 ∧
        t.csq = departedCsq { noCauses with park := true } .fault s.csq ∧ t.txe.departureWaits = true ∧ t.txe.job = some j ∧
        t.txe.op = s.txe.op ∧ t.spc = s.spc ∧ t.svc = s.svc ∧ KeepsCache s t ∧ KeepsTables s t ∧ t.lif.reports = s.lif.reports) ∧
    (s.smn.slot = .temp → s.csq.lifecycle ≠ .ready → s.smn.temp.limits.armed = .always → s.smn.temp.active = .high →
      s.smn.temp.limits.highAction = .holdWrites → s.smn.temp.inRange = 1 → s.smn.temp.limits.low ≤ reading →
      reading ≤ s.smn.temp.limits.high → s.smn.v12.active = .neither → s.smn.v5.active = .neither → s.smn.ispin.active = .neither →
      s.smn.iact.active = .neither → s.sgc.heldDeparture = false →
      Leads (.monitorReading reading) s fun t =>
        t.smn.temp = { s.smn.temp with latest := reading, runSide := .neither, runCount := 0, active := .neither, inRange := 0 } ∧
        writeHold s = true ∧ writeHold t = false ∧ t.txe.holdTimer = none ∧ t.lif.notices = s.lif.notices ∧ t.csq = s.csq ∧ t.spc = s.spc ∧
        t.svc = s.svc ∧ t.sgc = s.sgc ∧ t.txe.op = s.txe.op) ∧
    (s.smn.slot = .v5 → s.csq.lifecycle = .stopped → s.csq.spinUpRequest = true → s.smn.roundComplete = true → s.spc.state = .still →
      s.smn.v5.limits.armed = .always → s.smn.v5.active = .low → s.smn.v5.limits.lowAction = .retract → s.smn.v5.inRange = 1 →
      s.smn.v5.limits.low ≤ reading → reading ≤ s.smn.v5.limits.high → s.smn.v12.active = .neither → s.smn.temp.active = .neither →
      s.smn.ispin.active = .neither → s.smn.iact.active = .neither →
      Leads (.monitorReading reading) s fun t =>
        t.smn.v5 = { s.smn.v5 with latest := reading, runSide := .neither, runCount := 0, active := .neither, inRange := 0 } ∧
        gateShut s = true ∧ gateShut t = false ∧ t.csq = { stillCsq .spinUp s.csq with spinUpRequest := false } ∧
        t.spc.state = .driving ∧ t.spc.driveEnable = true ∧ t.spc.phase = .acquire ∧ t.spc.spinUpPending = true ∧
        t.spc.spinUpTimer = some 10000000 ∧ t.svc = s.svc ∧ t.lif.notices = s.lif.notices ∧ KeepsCache s t ∧ KeepsTables s t) ∧
    (s.smn.slot = .temp → s.csq.lifecycle = .ready → s.smn.temp.active = .neither →
      s.smn.temp.limits.low ≤ reading → reading ≤ s.smn.temp.limits.high → s.svc.cal.temperature = some x →
      (x + 8 ≤ reading ∨ reading + 8 ≤ x) → s.svc.cal.due = false →
      (s.txe.job = some j → j.kind = .order →
        exec (.monitorReading reading) s = .next (finish
          (modChannel .temp (fun r => { r with latest := reading, runSide := .neither, runCount := 0 })
            { s with smn := { s.smn with slot := .ispin, slotTimer := 20000 }, svc := { s.svc with cal := { s.svc.cal with due := true } } }))) ∧
      (s.txe.job = none → s.txe.orderWaits = false → s.svc.cal.stage = .idle → passTag s = none → OnTrack s → s.svc.targetCylinder ≠ 75 →
        Leads (.monitorReading reading) s fun t =>
          t.smn.temp.latest = reading ∧ t.csq.lifecycle = .calibrate ∧ t.svc.cal.due = true ∧ t.svc.cal.passOrder = none ∧
          t.svc.cal.stage = .seeking ∧ t.svc.cal.band = 0 ∧ t.svc.cal.bandsDone = [] ∧ t.svc.mode = .seek ∧ t.svc.targetCylinder = 75 ∧
          t.svc.targetHead = 0 ∧ t.svc.requester = .calibration ∧ t.svc.seekStatus = .outstanding ∧ t.svc.bias = s.svc.bias ∧
          t.spc = s.spc ∧ t.lif.notices = s.lif.notices ∧ t.lif.reports = s.lif.reports ∧ KeepsCache s t ∧ KeepsTables s t)) ∧
    (s.smn.slot = .iact → s.smn.roundComplete = false → s.smn.iact.active = .neither →
      (armedIn s.smn.iact.limits.armed s.csq.lifecycle = true → s.smn.iact.limits.low ≤ reading ∧ reading ≤ s.smn.iact.limits.high) →
      ((s.csq.lifecycle ≠ .stopped ∨ s.csq.spinUpRequest = false) →
        exec (.monitorReading reading) s = .next (finish
          (modChannel .iact (fun r => { r with
              latest := reading, runSide := .neither, runCount := 0,
              inRange := if armedIn r.limits.armed s.csq.lifecycle then r.inRange else 0 })
            { s with smn := { s.smn with slot := .v12, slotTimer := 20000, roundComplete := true } }))) ∧
      (s.csq.lifecycle = .stopped → s.csq.spinUpRequest = true → s.spc.state = .still → gateShut s = false →
        Leads (.monitorReading reading) s fun t =>
          t.smn.iact.latest = reading ∧ t.smn.roundComplete = true ∧ t.csq = { stillCsq .spinUp s.csq with spinUpRequest := false } ∧
          t.spc.state = .driving ∧ t.spc.driveEnable = true ∧ t.spc.phase = .acquire ∧ t.spc.spinUpPending = true ∧
          t.spc.spinUpTimer = some 10000000 ∧ t.svc = s.svc ∧ t.lif.notices = s.lif.notices ∧ KeepsCache s t ∧ KeepsTables s t))

/-! ### Frames -/

/-- POLL_FRAME and HOST_HANDSHAKE (R146, R175, R178): the oldest report is offered first, then the ready block of the executing READ with its 512 bytes,
then the next frame of a READ_TABLE's image, and an IDLE frame when there is nothing. An accepted report leaves the queue; an accepted block, read
from the medium or found valid, is delivered and counted, and the last one releases its segment and ends the READ DONE, or RECOVERED after a retry; a
READ that read from the medium is then followed by a read-ahead if that is on (R148), which begins with the next block when it is not valid (in a
sound cache, CacheSound); an accepted image frame is followed by the next, and the last one ends the order DONE. A frame answered REFUSED stays. The
link side of the buffer port is held by a block's frame until the host answers it (assumption 52). -/
def Obligations.PollsOfferFrames : Prop :=
  ∀ (r : Report) (rest : List Report) (tag first count p i m : Nat) (medium : Bool) (f : List Byte) (s : State),
    (s.lif.reports = r :: rest →
      (Leads .pollFrame s fun t =>
        t.lif.cable = encodeFrame 0x81 s.lif.driveAddress r.tag 0 (reportBytes r) ∧ t.lif.exchange = .report ∧ t.lif.reports = s.lif.reports ∧
        KeepsMechanism s t ∧ KeepsLink s t ∧ KeepsCache s t ∧ KeepsTables s t ∧ t.csq = s.csq) ∧
      (s.lif.exchange = .report →
        exec (.hostHandshake true) s = .next (finish { s with
          lif := { s.lif with reports := rest, exchange := .noFrame }, sgc := { s.sgc with linkPort := .idle } }))) ∧
    (s.lif.reports = [] → s.lif.executing = none → s.lif.readImage = [] →
      Leads .pollFrame s fun t =>
        t.lif.cable = encodeFrame 0x83 s.lif.driveAddress 0 0 [] ∧ t.lif.exchange = .idle ∧
        KeepsMechanism s t ∧ KeepsLink s t ∧ KeepsCache s t ∧ KeepsTables s t ∧ t.csq = s.csq) ∧
    (exec (.hostHandshake false) s = .next (finish { s with
        lif := { s.lif with exchange := .noFrame }, sgc := { s.sgc with linkPort := .idle } })) ∧
    (s.lif.executing = some { order := { tag := tag, kind := .read first count }, remnant := false, stage := .inSlot, blocks := p } →
      s.txe.job = some (orderJob (.read m medium [] none)) → s.txe.endPending = .no → findWindow (windowBase (first + p)) s = some i →
      i < s.sgc.segments.length →
      (s.lif.reports = [] → p < count → (first + p) % 16 ∈ (segmentAt s i).valid →
        Leads .pollFrame s fun t =>
          t.lif.cable = encodeFrame 0x82 s.lif.driveAddress tag p (readBytes s.sgc.buffer (8192 * i + 512 * ((first + p) % 16)) 512) ∧
          t.lif.exchange = .block p ∧ t.sgc.linkPort = (if s.sgc.mediaPort then .suspended else .active) ∧
          t.lif.executing = s.lif.executing ∧ KeepsMechanism s t ∧ KeepsLink s t ∧ KeepsCache s t ∧ KeepsTables s t ∧ t.csq = s.csq) ∧
      (s.lif.exchange = .block p → p + 1 < count → (first + p + 1) % 16 ≠ 0 →
        exec (.hostHandshake true) s = .next (finish { s with
          lif := { s.lif with
            exchange := .noFrame,
            executing := some { order := { tag := tag, kind := .read first count }, remnant := false, stage := .inSlot, blocks := p + 1 } },
          sgc := { s.sgc with linkPort := .idle } })) ∧
      (s.lif.exchange = .block p → p + 1 < count → (first + p + 1) % 16 = 0 →
        Leads (.hostHandshake true) s fun t =>
          t.lif.executing =
            some { order := { tag := tag, kind := .read first count }, remnant := false, stage := .inSlot, blocks := p + 1 } ∧
          segmentAt t i = { segmentAt s i with attachment := .free } ∧ (∀ k, k ≠ i → segmentAt t k = segmentAt s k) ∧
          t.sgc.recency = s.sgc.recency.filter (fun k => k != i) ++ [i] ∧ t.sgc.buffer = s.sgc.buffer ∧ t.txe.job = s.txe.job ∧
          KeepsMechanism s t ∧ KeepsLink s t ∧ KeepsTables s t ∧ t.csq = s.csq ∧ t.lif.reports = s.lif.reports) ∧
      (s.lif.exchange = .block p → p + 1 = count → NothingWaits s → CacheSound s → s.lif.settings.readAhead = true → medium = true →
        s.svc.cal.stage = .idle → (first + count) % 16 ≠ 0 → first + count < s.txe.capacity → (first + count) % 16 ∉ (segmentAt s i).valid →
        Leads (.hostHandshake true) s fun t =>
          t.lif.executing = none ∧ t.lif.exchange = .noFrame ∧
          t.lif.reports = s.lif.reports ++
            [{ tag := tag, kind := .read first count, outcome := if s.txe.jobRecovered then .recovered else .done, blocks := count,
               detail := .noDetail, lifecycle := .ready }] ∧
          (t.txe.job.map fun j => j.kind) = some .readAhead ∧
          WorksOn (.block (first + count)) .read (mapBlock s.txe (first + count)) t ∧ (segmentAt t i).attachment = .readAhead ∧
          heldBlocks t = heldBlocks s ∧ t.sgc.buffer = s.sgc.buffer ∧ t.spc = s.spc ∧ t.smn = s.smn ∧ KeepsLink s t ∧ KeepsTables s t ∧
          t.csq = s.csq) ∧
      (s.lif.exchange = .block p → p + 1 = count → NothingWaits s → s.sgc.flushWanted = false →
        (medium = false ∨ s.lif.settings.readAhead = false) →
        Leads (.hostHandshake true) s fun t =>
          t.lif.executing = none ∧ t.txe.job = none ∧ t.lif.exchange = .noFrame ∧
          t.lif.reports = s.lif.reports ++
            [{ tag := tag, kind := .read first count, outcome := if s.txe.jobRecovered then .recovered else .done, blocks := count,
               detail := .noDetail, lifecycle := .ready }] ∧
          t.sgc.recency = s.sgc.recency.filter (fun k => k != i) ++ [i] ∧ (segmentAt t i).attachment = .free ∧ heldBlocks t = heldBlocks s ∧
          t.sgc.buffer = s.sgc.buffer ∧ KeepsMechanism s t ∧ KeepsLink s t ∧ KeepsTables s t ∧ t.csq = s.csq)) ∧
    (s.lif.executing = some { order := { tag := tag, kind := .readTable i }, remnant := false, stage := .offering, blocks := 0 } →
      (s.lif.reports = [] → s.lif.readImage[s.lif.readIndex]? = some f →
        Leads .pollFrame s fun t =>
          t.lif.cable = encodeFrame 0x82 s.lif.driveAddress tag s.lif.readIndex f ∧ t.lif.exchange = .image ∧
          t.lif.executing = s.lif.executing ∧ t.lif.readIndex = s.lif.readIndex ∧
          KeepsMechanism s t ∧ KeepsLink s t ∧ KeepsCache s t ∧ KeepsTables s t ∧ t.csq = s.csq) ∧
      (s.lif.exchange = .image → s.lif.readIndex + 1 < s.lif.readImage.length →
        exec (.hostHandshake true) s = .next (finish { s with
          lif := { s.lif with exchange := .noFrame, readIndex := s.lif.readIndex + 1 }, sgc := { s.sgc with linkPort := .idle } })) ∧
      (s.lif.exchange = .image → s.lif.readIndex + 1 = s.lif.readImage.length → s.lif.orderQueue = [] →
        Leads (.hostHandshake true) s fun t =>
          t.lif.executing = none ∧ t.lif.readImage = [] ∧ t.lif.exchange = .noFrame ∧
          t.lif.reports = s.lif.reports ++ [{ tag := tag, kind := .readTable i, outcome := .done, blocks := 0, detail := .table i,
                                              lifecycle := s.csq.lifecycle }] ∧
          KeepsMechanism s t ∧ KeepsLink s t ∧ KeepsCache s t ∧ KeepsTables s t ∧ t.csq = s.csq))

/-- HOST_HANDSHAKE ACCEPT to a STATUS_REPORT (R180): the notices, fault flags and counters that the clear set names are cleared, and nothing else of the
conditions. -/
def Obligations.TakenStatusClears : Prop :=
  ∀ (x : ClearSet) (s : State), s.lif.exchange = .status x →
    Leads (.hostHandshake true) s fun t =>
      t.lif.notices = s.lif.notices &&& ~~~x.notices ∧
      t.lif.crcDiscards = (if x.counters.getLsbD 0 then 0 else s.lif.crcDiscards) ∧
      t.txe.retryCounter = (if x.counters.getLsbD 1 then 0 else s.txe.retryCounter) ∧
      t.txe.missedRevolutions = (if x.counters.getLsbD 2 then 0 else s.txe.missedRevolutions) ∧
      t.svc.pos.totalMissed = (if x.counters.getLsbD 3 then 0 else s.svc.pos.totalMissed) ∧
      t.svc.seekErrors = (if x.counters.getLsbD 4 then 0 else s.svc.seekErrors) ∧
      t.sgc.lostBlocks = (if x.counters.getLsbD 5 then 0 else s.sgc.lostBlocks) ∧
      t.sgc.lastLost = (if x.counters.getLsbD 5 then none else s.sgc.lastLost) ∧
      t.smn = { s.smn with
        v12 := { s.smn.v12 with
          lowFault := s.smn.v12.lowFault && !x.faults.getLsbD 0, highFault := s.smn.v12.highFault && !x.faults.getLsbD 1 }
        v5 := { s.smn.v5 with
          lowFault := s.smn.v5.lowFault && !x.faults.getLsbD 2, highFault := s.smn.v5.highFault && !x.faults.getLsbD 3 }
        temp := { s.smn.temp with
          lowFault := s.smn.temp.lowFault && !x.faults.getLsbD 4, highFault := s.smn.temp.highFault && !x.faults.getLsbD 5 }
        ispin := { s.smn.ispin with
          lowFault := s.smn.ispin.lowFault && !x.faults.getLsbD 6, highFault := s.smn.ispin.highFault && !x.faults.getLsbD 7 }
        iact := { s.smn.iact with
          lowFault := s.smn.iact.lowFault && !x.faults.getLsbD 8, highFault := s.smn.iact.highFault && !x.faults.getLsbD 9 } } ∧
      writeHold t = writeHold s ∧ t.lif.reports = s.lif.reports ∧ t.csq = s.csq ∧ t.spc = s.spc ∧ KeepsTables s t

/-- DATA_OUT_FRAME (R149, R174): a WRITE's frame that fits and has its place is answered ACCEPT; the block's bytes are stored, it leaves the valid and
dirty sets at its first byte, by which flush wanted is cleared when it was the only dirty block (R154), and joins them again, the segment becomes most
recent, and the expected index and the blocks done rise by one. The frame that completes a window releases its segment (R150), and the one that
completes the order ends it DONE, or RECOVERED after a retry, with blocks done equal to the count; written through, the frame that completes a window
begins the flush of its segment (R151). FRAME_DISCARDED_BAD_CRC of such a frame of which bytes had been written (R149, R172): it is counted and not
answered, the bytes stand in the block's place, and the block is in neither set, with the same end of flush wanted. -/
def Obligations.DataOutPlacesABlock : Prop :=
  ∀ (tag first count index i blocks : Nat) (through : Bool) (payload : List Byte) (s : State),
    s.lif.executing = some { order := { tag := tag, kind := .write first count }, remnant := false, stage := .inSlot, blocks := blocks } →
    s.txe.job = some (orderJob (.write through [])) → s.lif.expectedIndex = index →
    findWindow (windowBase (first + index)) s = some i → (segmentAt s i).attachment = .order → i < s.sgc.segments.length →
    (through = false → index + 1 < count → payload.length = 512 →
      Leads (.dataOutFrame tag index payload) s fun t =>
        t.lif.cable = [0xA5#8] ∧ t.lif.expectedIndex = index + 1 ∧
        t.lif.executing = some { order := { tag := tag, kind := .write first count }, remnant := false, stage := .inSlot, blocks := index + 1 } ∧
        segmentAt t i =
          { placedIn (first + index) (segmentAt s i) with attachment := if (first + index + 1) % 16 = 0 then .free else .order } ∧
        (t.sgc.flushWanted = true ↔ s.sgc.flushWanted = true ∧ DirtyBeside i ((first + index) % 16) s) ∧
        (∀ k, k ≠ i → segmentAt t k = segmentAt s k) ∧
        t.sgc.buffer = writeBytes s.sgc.buffer (8192 * i + 512 * ((first + index) % 16)) payload ∧
        t.sgc.recency = i :: s.sgc.recency.filter (fun k => k != i) ∧
        KeepsMechanism s t ∧ KeepsLink s t ∧ KeepsTables s t ∧ t.csq = s.csq ∧ t.lif.reports = s.lif.reports) ∧
    (through = false → index + 1 = count → payload.length = 512 → NothingWaits s → s.sgc.flushWanted = false →
      Leads (.dataOutFrame tag index payload) s fun t =>
        t.lif.cable = [0xA5#8] ∧ t.lif.executing = none ∧ t.txe.job = none ∧
        t.lif.reports = s.lif.reports ++
          [{ tag := tag, kind := .write first count, outcome := if s.txe.jobRecovered then .recovered else .done, blocks := count,
             detail := .noDetail, lifecycle := .ready }] ∧
        segmentAt t i = { placedIn (first + index) (segmentAt s i) with attachment := .free } ∧
        (∀ k, k ≠ i → segmentAt t k = freed (segmentAt s k)) ∧
        t.sgc.buffer = writeBytes s.sgc.buffer (8192 * i + 512 * ((first + index) % 16)) payload ∧
        t.sgc.recency = i :: s.sgc.recency.filter (fun k => k != i) ∧ KeepsMechanism s t ∧ KeepsLink s t ∧ KeepsTables s t ∧ t.csq = s.csq) ∧
    (through = true → index < count → (index + 1 = count ∨ (first + index + 1) % 16 = 0) → payload.length = 512 →
      (segmentAt s i).dirty = [] → s.svc.cal.stage = .idle →
      Leads (.dataOutFrame tag index payload) s fun t =>
        t.lif.cable = [0xA5#8] ∧ t.lif.expectedIndex = index + 1 ∧ t.lif.executing = s.lif.executing ∧
        t.txe.job = some { orderJob (.write true []) with flushing := some i } ∧
        WorksOn (.block (first + index)) .write (mapBlock s.txe (first + index)) t ∧
        segmentAt t i = placedIn (first + index) (segmentAt s i) ∧ (∀ k, k ≠ i → segmentAt t k = segmentAt s k) ∧
        t.sgc.buffer = writeBytes s.sgc.buffer (8192 * i + 512 * ((first + index) % 16)) payload ∧
        t.sgc.recency = i :: s.sgc.recency.filter (fun k => k != i) ∧ t.spc = s.spc ∧ t.smn = s.smn ∧ KeepsLink s t ∧ KeepsTables s t ∧
        t.csq = s.csq ∧ t.lif.reports = s.lif.reports) ∧
    (index < count → payload ≠ [] → payload.length ≤ 512 →
      Leads (.frameDiscardedBadCrc (.dataOut tag index 512 payload)) s fun t =>
        t.lif.crcDiscards = min 255 (s.lif.crcDiscards + 1) ∧ t.lif.cable = s.lif.cable ∧ t.lif.expectedIndex = index ∧
        t.lif.executing = s.lif.executing ∧ (segmentAt t i).valid = eraseNat ((first + index) % 16) (segmentAt s i).valid ∧
        (segmentAt t i).dirty = eraseNat ((first + index) % 16) (segmentAt s i).dirty ∧
        (t.sgc.flushWanted = true ↔ s.sgc.flushWanted = true ∧ DirtyBeside i ((first + index) % 16) s) ∧
        (∀ k, k ≠ i → segmentAt t k = segmentAt s k) ∧
        t.sgc.buffer = writeBytes s.sgc.buffer (8192 * i + 512 * ((first + index) % 16)) payload ∧ t.sgc.recency = s.sgc.recency ∧
        KeepsMechanism s t ∧ KeepsTables s t ∧ t.csq = s.csq ∧ t.lif.notices = s.lif.notices ∧ t.lif.reports = s.lif.reports)

/-- UNKNOWN_ORDER_KIND, FRAME_DISCARDED_BAD_CRC and order frames turned away (R172, R173): a discarded frame is counted up to 255 and not answered; a
frame of an unknown kind and an order with a tag in use are answered REFUSED, and an order that finds the queue or the report places full is answered
BUSY. An answered frame leaves everything as it was but for the cable, the exchange of the frame the drive had sent before, which it ends (assumption
27), and the link side of the buffer port, which it gives up (the model's choice, assumption 52). -/
def Obligations.FramesTurnedAway : Prop :=
  ∀ (tag a b : Nat) (image : SettingsImage) (s : State),
    (exec .unknownOrderKind s = .next (finish { s with
      lif := { s.lif with exchange := .noFrame, cable := [0xC3#8] }, sgc := { s.sgc with linkPort := .idle } })) ∧
    exec (.frameDiscardedBadCrc .other) s = .next (finish { s with lif := { s.lif with crcDiscards := min 255 (s.lif.crcDiscards + 1) } }) ∧
    (tagInUse tag s = true → ∀ c ∈ queuedOrders tag a b image,
      exec c s = .next (finish { s with
        lif := { s.lif with exchange := .noFrame, cable := [0xC3#8] }, sgc := { s.sgc with linkPort := .idle } })) ∧
    (tag ≤ 15 → tagInUse tag s = false → (4 ≤ s.lif.orderQueue.length ∨ 8 ≤ placesHeld s) → ∀ c ∈ queuedOrders tag a b image,
      exec c s = .next (finish { s with
        lif := { s.lif with exchange := .noFrame, cable := [0xB2#8] }, sgc := { s.sgc with linkPort := .idle } }))

/-- LINK_RESET_LINE and RESET (R3, R103, R126, R182, R183): the queues are emptied with no reports, the expected index is 0, and every other block keeps
its state but for the departure causes of orders; a RESET is answered ACCEPT and a STATUS_REPORT of the emptied queues (its bytes: assumptions 25 and
47). An executing order that is in no block's work, or waits for a start, ends at once without a report, and no ORDER request of it waits for the slot
any more (the model's choice, assumption 48); a STOP or EJECT among those that wait for a start is carried on without its tag (assumption 37). A job
in the slot runs to its sector boundary as a remnant, and one that is at its boundary ends; a label write (assumption 43) and a CALIBRATE that has
proceeded (assumption 42) run on as remnants. -/
def Obligations.LinkResetEmptiesTheQueues : Prop :=
  ∀ (tag option : Nat) (e : Executing) (o : SectorOp) (s : State),
    (s.lif.executing = none →
      exec (.linkResetLine .other) s = .next (finish (afterLinkReset s)) ∧
      (tag ≤ 15 →
        Leads (.reset tag) s fun t =>
          t.lif.orderQueue = [] ∧ t.lif.reports = [] ∧ t.lif.expectedIndex = 0 ∧
          t.lif.cable = 0xA5#8 :: encodeFrame 0x84 s.lif.driveAddress tag 0 (statusBytes none 0 (afterLinkReset s)) ∧
          KeepsMechanism s t ∧ KeepsLink s t ∧ KeepsCache s t ∧ KeepsTables s t ∧ t.csq = (afterLinkReset s).csq)) ∧
    (s.lif.executing = some e →
      ((e.stage = .dispatched ∨ e.stage = .waitSlot ∨ e.stage = .departing ∨ e.stage = .gathering ∨ e.stage = .offering) →
        exec (.linkResetLine .other) s = .next (finish (afterLinkResetDrop s))) ∧
      (e.stage = .waitStart →
        (e.order.kind.leaves = false → exec (.linkResetLine .other) s = .next (finish (afterLinkResetDrop s))) ∧
        (e.order.kind = .stop → s.csq.carried = none →
          exec (.linkResetLine .other) s = .next (finish { afterLinkResetDrop s with
            csq := { (afterLinkReset s).csq with carried := some .stop } })) ∧
        (e.order.kind = .eject option →
          exec (.linkResetLine .other) s = .next (finish { afterLinkResetDrop s with
            csq := { (afterLinkReset s).csq with carried := some .eject } }))) ∧
      ((e.stage = .waitPass ∨ (e.stage = .inSlot ∧ labelWriting s = true)) →
        exec (.linkResetLine .other) s = .next (finish { afterLinkReset s with
          lif := { (afterLinkReset s).lif with executing := some { e with remnant := true } } })) ∧
      (e.stage = .inSlot → labelWriting s = false → s.txe.op = some o → o.phase = .transferring →
        exec (.linkResetLine .other) s = .next (finish { afterLinkReset s with
          lif := { (afterLinkReset s).lif with executing := some { e with remnant := true } },
          txe := { s.txe with endPending := .linkReset } })) ∧
      (e.stage = .inSlot → labelWriting s = false → atBoundary s = true → orderInSlot s = true → s.csq.lifecycle = .ready →
        s.svc.cal.due = false → s.txe.orderWaits = false → s.txe.departureWaits = false → s.sgc.flushWanted = false →
        Leads (.linkResetLine .other) s fun t =>
          t.lif.executing = none ∧ t.lif.reports = [] ∧ t.lif.orderQueue = [] ∧ t.txe.job = none ∧ t.txe.op = none ∧
          t.csq = (afterLinkReset s).csq ∧ heldBlocks t = heldBlocks s ∧ t.sgc.buffer = s.sgc.buffer ∧ KeepsMechanism s t ∧ KeepsLink s t ∧
          KeepsTables s t))

/-- STATUS (R173, R180): answered ACCEPT and directly after it the STATUS_REPORT of the state (its bytes: assumptions 25 and 47), whatever the queues
hold; nothing is cleared before the host takes it, and no timer is restarted. -/
def Obligations.StatusReportsTheState : Prop :=
  ∀ (tag : Nat) (x : ClearSet) (s : State), tag ≤ 15 →
    Leads (.status tag x) s fun t =>
      t.lif.cable = 0xA5#8 :: encodeFrame 0x84 s.lif.driveAddress tag 0 (statusBytes none 0 s) ∧ t.lif.exchange = .status x ∧
      t.lif.orderQueue = s.lif.orderQueue ∧ t.lif.executing = s.lif.executing ∧ t.lif.reports = s.lif.reports ∧
      KeepsMechanism s t ∧ KeepsLink s t ∧ KeepsCache s t ∧ KeepsTables s t ∧ t.csq = s.csq ∧ t.sgc.flushTimer = s.sgc.flushTimer

/-- ABORT and ABORT_ALL (R119, R126, R181), each answered ACCEPT and a STATUS_REPORT of the state reached (assumption 24; its bytes: 25 and 47), with the
abort result. With nothing executing: a queued order is removed with an ABORTED report, its detail none for a SEEK and a REASSIGN too (assumption 50);
all removes every queued order, in queue order; a tag not in use changes no queue. Of the executing order: a START or STOP, an EJECT in its FIRST
round, a CALIBRATE that has proceeded, and a label write whose first sector has begun (assumption 43) are NOT_ABORTABLE; an order that waits for its
start or its frames ends ABORTED at once, with the cylinder of a SEEK (R139) or the block of a REASSIGN (R111) as detail and else none (the model's
reading of R171, assumption 17); one in the slot ends at its next sector boundary, at once when it is there, answered ENDING all the same (assumption
21); an EJECT in a RETRY round stops its pulse and returns to JAMMED. -/
def Obligations.AbortEndsOrders : Prop :=
  ∀ (tag victim option : Nat) (q : Order) (e : Executing) (o : SectorOp) (s : State), tag ≤ 15 →
    (s.lif.executing = none →
      (s.lif.orderQueue = [q] → q.tag = victim →
        Leads (.abort tag victim) s fun t =>
          t.lif.orderQueue = [] ∧
          t.lif.reports = s.lif.reports ++ [{ tag := victim, kind := q.kind, outcome := .aborted, blocks := 0, detail := .noDetail,
                                              lifecycle := s.csq.lifecycle }] ∧
          StatusAnswered tag (some .removed) 1 t ∧ KeepsMechanism s t ∧ KeepsLink s t ∧ KeepsCache s t ∧ KeepsTables s t ∧ t.csq = s.csq) ∧
      (s.lif.orderQueue = [] → (∀ r ∈ s.lif.reports, r.tag ≠ victim) →
        Leads (.abort tag victim) s fun t =>
          t.lif.orderQueue = [] ∧ t.lif.reports = s.lif.reports ∧ StatusAnswered tag (some .unknown) 0 t ∧
          KeepsMechanism s t ∧ KeepsLink s t ∧ KeepsCache s t ∧ KeepsTables s t ∧ t.csq = s.csq) ∧
      (Leads (.abortAll tag) s fun t =>
          t.lif.orderQueue = [] ∧
          t.lif.reports = s.lif.reports ++ s.lif.orderQueue.map (fun q =>
            { tag := q.tag, kind := q.kind, outcome := .aborted, blocks := 0, detail := .noDetail, lifecycle := s.csq.lifecycle }) ∧
          StatusAnswered tag none s.lif.orderQueue.length t ∧
          KeepsMechanism s t ∧ KeepsLink s t ∧ KeepsCache s t ∧ KeepsTables s t ∧ t.csq = s.csq)) ∧
    (s.lif.executing = some e → e.remnant = false → e.order.tag = victim → s.lif.orderQueue = [] →
      ((e.order.kind = .start ∨ e.order.kind = .stop ∨
          (e.order.kind = .eject option ∧ (s.csq.lifecycle ≠ .eject ∨ s.csq.ejectRound = .first)) ∨
          (e.order.kind = .calibrate ∧ e.stage = .waitPass) ∨
          (e.order.kind = .commitLabel option ∧ e.stage = .inSlot ∧ labelBegun s = true)) →
        Leads (.abort tag victim) s fun t =>
          StatusAnswered tag (some .notAbortable) 0 t ∧ t.lif.executing = some e ∧ t.lif.reports = s.lif.reports ∧ t.txe.job = s.txe.job ∧
          t.txe.op = s.txe.op ∧ t.txe.endPending = s.txe.endPending ∧
          KeepsMechanism s t ∧ KeepsLink s t ∧ KeepsCache s t ∧ KeepsTables s t ∧ t.csq = s.csq) ∧
      (e.order.kind ≠ .start → e.order.kind.leaves = false → (e.stage = .waitStart ∨ e.stage = .gathering ∨ e.stage = .offering) →
        Leads (.abort tag victim) s fun t =>
          StatusAnswered tag (some .ending) 0 t ∧ t.lif.executing = none ∧
          t.lif.reports = s.lif.reports ++ [{ tag := victim, kind := e.order.kind, outcome := .aborted, blocks := e.blocks,
                                              detail := e.order.kind.detail, lifecycle := s.csq.lifecycle }] ∧
          KeepsMechanism s t ∧ KeepsLink s t ∧ KeepsCache s t ∧ KeepsTables s t ∧ t.csq = s.csq) ∧
      (e.order.kind ≠ .start → e.order.kind.leaves = false → e.stage = .inSlot → labelBegun s = false →
        (s.txe.op = some o → o.phase = .transferring →
          Leads (.abort tag victim) s fun t =>
            StatusAnswered tag (some .ending) 0 t ∧ t.lif.executing = some e ∧ t.txe.endPending = .abort ∧ t.txe.job = s.txe.job ∧
            t.txe.op = s.txe.op ∧ t.lif.reports = s.lif.reports ∧
            KeepsMechanism s t ∧ KeepsLink s t ∧ KeepsCache s t ∧ KeepsTables s t ∧ t.csq = s.csq) ∧
        (atBoundary s = true → orderInSlot s = true → NothingWaits s → s.sgc.flushWanted = false →
          Leads (.abort tag victim) s fun t =>
            StatusAnswered tag (some .ending) 0 t ∧ t.lif.executing = none ∧ t.txe.job = none ∧ t.txe.op = none ∧
            t.lif.reports = s.lif.reports ++ [{ tag := victim, kind := e.order.kind, outcome := .aborted, blocks := e.blocks,
                                                detail := e.order.kind.detail, lifecycle := .ready }] ∧
            heldBlocks t = heldBlocks s ∧ t.sgc.buffer = s.sgc.buffer ∧ KeepsMechanism s t ∧ KeepsLink s t ∧ KeepsTables s t ∧
            t.csq = s.csq)) ∧
      (e.order.kind = .eject option → s.csq.lifecycle = .eject → s.csq.ejectRound = .retry →
        Leads (.abort tag victim) s fun t =>
          StatusAnswered tag (some .ending) 0 t ∧ t.lif.executing = none ∧ t.csq = stillCsq .jammed s.csq ∧
          t.lif.reports = s.lif.reports ++ [{ tag := victim, kind := .eject option, outcome := .aborted, blocks := e.blocks, detail := .noDetail,
                                              lifecycle := .jammed }] ∧
          KeepsMechanism s t ∧ KeepsLink s t ∧ KeepsCache s t ∧ KeepsTables s t)) ∧
    (s.lif.executing = some e → e.remnant = false → e.order.kind = .start →
      Leads (.abortAll tag) s fun t =>
        StatusAnswered tag (some .notAbortable) s.lif.orderQueue.length t ∧ t.lif.executing = some e ∧ t.lif.orderQueue = [] ∧
        t.lif.reports = s.lif.reports ++ s.lif.orderQueue.map (fun q =>
          { tag := q.tag, kind := q.kind, outcome := .aborted, blocks := 0, detail := .noDetail, lifecycle := s.csq.lifecycle }) ∧
        KeepsMechanism s t ∧ KeepsLink s t ∧ KeepsCache s t ∧ KeepsTables s t ∧ t.csq = s.csq)

/-! ### Orders -/

/-- START in READY (R26) ends DONE at once and clears the fault hold; STOP in STOPPED (R27) ends DONE, clears the spin-up request and sets the stop reason
to ORDER unless it is FAULT. -/
def Obligations.StartAndStopAtRest : Prop :=
  ∀ (tag : Nat) (s : State),
    (QuietReady tag s →
      Leads (.start tag) s fun t =>
        EndedAtOnce tag .start .done .noDetail s t ∧ t.csq.faultHold = false ∧ t.csq.lifecycle = .ready ∧ t.csq.stopReason = s.csq.stopReason ∧
        KeepsMechanism s t ∧ KeepsLink s t ∧ KeepsCache s t ∧ KeepsTables s t) ∧
    (Quiet tag s → s.csq.lifecycle = .stopped →
      Leads (.stop tag) s fun t =>
        EndedAtOnce tag .stop .done .noDetail s t ∧
        t.csq = { s.csq with spinUpRequest := false, stopReason := if s.csq.stopReason = .fault then .fault else .order } ∧
        KeepsMechanism s t ∧ KeepsLink s t ∧ KeepsCache s t ∧ KeepsTables s t)

/-- EJECT and EJECT with DISCARD in STOPPED (R18, R28, R157): with the heads parked and the stop confirmed, ejection begins: lock released, first pulse,
EJECT; with the sensor already reading false the cartridge is gone at once and the order ends DONE in EMPTY (assumption 28); over dirty blocks a plain
EJECT ends DIRTY, and DISCARD gives them up first, counted and notified. -/
def Obligations.EjectFromStopped : Prop :=
  ∀ (tag : Nat) (s : State), Quiet tag s → s.csq.lifecycle = .stopped → s.csq.removalPrevented = false →
    (dirtyCount s = 0 → s.txe.labelModified = false → s.svc.mode = .parked → s.spc.lastCheckConfirmed = true →
      (s.pins.present = true →
        Leads (.eject tag 0) s fun t =>
          Executes tag (.eject 0) .departing s t ∧
          t.csq = { stillCsq .eject s.csq with
            spinUpRequest := false, lockEngaged := false, ejectPulses := 1, ejectRound := .first, ejectCheck := s.csq.ejectCheck,
            oneShot := some (if s.lif.settings.ejectLong then 160000 else 40000) } ∧
          KeepsMechanism s t ∧ KeepsLink s t ∧ KeepsCache s t ∧ KeepsTables s t) ∧
      (s.pins.present = false →
        Leads (.eject tag 0) s fun t =>
          EndedAtOnce tag (.eject 0) .done .noDetail s t ∧ t.csq.lifecycle = .empty ∧ t.csq.lockEngaged = false ∧ t.csq.oneShot = none ∧
          t.lif.notices = s.lif.notices ||| 2#16 ∧ t.txe.labelStatus = .unread ∧ (∀ g ∈ t.sgc.segments, g.valid = [] ∧ g.dirty = []) ∧
          KeepsMechanism s t)) ∧
    (dirtyCount s ≠ 0 →
      Leads (.eject tag 0) s fun t =>
        EndedAtOnce tag (.eject 0) .dirty .noDetail s t ∧ t.csq.lifecycle = .stopped ∧ t.csq.lockEngaged = s.csq.lockEngaged ∧
        t.csq.ejectPending = false ∧ KeepsMechanism s t ∧ KeepsCache s t ∧ KeepsTables s t) ∧
    (dirtyCount s ≠ 0 → s.svc.mode = .parked → s.spc.lastCheckConfirmed = true → s.pins.present = true →
      Leads (.ejectDiscard tag) s fun t =>
        Executes tag (.eject 1) .departing s t ∧ t.csq.lifecycle = .eject ∧ t.csq.lockEngaged = false ∧ t.csq.ejectPulses = 1 ∧
        (∀ g ∈ t.sgc.segments, g.dirty = []) ∧ t.sgc.lostBlocks = min 65535 (s.sgc.lostBlocks + dirtyCount s) ∧
        t.sgc.lastLost = s.sgc.lastLost ∧ t.txe.labelModified = false ∧ t.lif.notices = s.lif.notices ||| 1024#16 ∧
        t.spc = s.spc ∧ t.svc = s.svc ∧ t.smn = s.smn ∧ t.pending = s.pending)

/-- REMOVAL (R29) ends DONE in every state with the flag set or cleared; its dispatch in READY starts the standby timer again, and nothing else of the CSQ
changes (R14); SET (R179, R185) replaces the record whole and ends DONE, in READY with the standby timer started again by the new delay (R14), or,
with a field outside its values, ends BAD_PARAMETER with the record unchanged and the standby timer started again by the old delay. -/
def Obligations.RemovalAndSetEndAtOnce : Prop :=
  ∀ (tag : Nat) (image : SettingsImage) (s : State), Quiet tag s →
    (Leads (.removalPrevent tag 1) s fun t =>
      EndedAtOnce tag (.removal 1) .done .noDetail s t ∧ t.csq = { dispatchedCsq s.lif.settings s.csq with removalPrevented := true } ∧
      KeepsMechanism s t ∧ KeepsLink s t ∧ KeepsCache s t ∧ KeepsTables s t) ∧
    (Leads (.removalAllow tag) s fun t =>
      EndedAtOnce tag (.removal 2) .done .noDetail s t ∧ t.csq = { dispatchedCsq s.lif.settings s.csq with removalPrevented := false } ∧
      KeepsMechanism s t ∧ KeepsLink s t ∧ KeepsCache s t ∧ KeepsTables s t) ∧
    (settingsOk image = true →
      Leads (.set tag image) s fun t =>
        EndedAtOnce tag (.set image) .done .noDetail s t ∧ t.csq = dispatchedCsq t.lif.settings s.csq ∧ t.lif.notices = s.lif.notices ∧
        t.lif.settings = { writeBack := image.writeBack == 1, readAhead := image.readAhead == 1, retryLimit := image.retryLimit,
                           flushDelay := image.flushDelay, standbyDelay := image.standbyDelay, ejectLong := image.ejectPulse == 1,
                           brakeSlow := image.brakeStep == 1, spinOnInsert := image.spinOnInsert == 1, noticeMask := image.noticeMask } ∧
        KeepsMechanism s t ∧ KeepsCache s t ∧ KeepsTables s t) ∧
    (settingsOk image = false →
      Leads (.set tag image) s fun t =>
        EndedAtOnce tag (.set image) .badParameter .noDetail s t ∧ t.csq = dispatchedCsq s.lif.settings s.csq ∧
        KeepsMechanism s t ∧ KeepsLink s t ∧ KeepsCache s t ∧ KeepsTables s t)

/-- SEEK in READY (R139, R75, R127): on a cylinder other than the one held it takes the slot and starts a new seek as requester TRANSFER, with the
integrator cleared and write permission withdrawn. -/
def Obligations.SeekStartsANewSeek : Prop :=
  ∀ (tag cylinder head : Nat) (s : State), QuietReady tag s → OnTrack s → s.svc.cal.stage = .idle → cylinder ≤ 1199 → head ≤ 1 →
    cylinder ≠ s.svc.targetCylinder →
    Leads (.seek tag cylinder head) s fun t =>
      Executes tag (.seek cylinder head) .inSlot s t ∧ t.svc.mode = .seek ∧ t.svc.targetCylinder = cylinder ∧ t.svc.targetHead = head ∧
      t.svc.retryOffset = 0 ∧ t.svc.requester = .transfer ∧ t.svc.seekStatus = .outstanding ∧ t.svc.integrator = 0 ∧ t.svc.settleCount = 0 ∧
      t.svc.timeoutCount = 0 ∧ t.svc.writePermission = false ∧ t.svc.pos = s.svc.pos ∧ t.svc.command = s.svc.command ∧
      t.spc = s.spc ∧ t.smn = s.smn ∧ KeepsLink s t ∧ KeepsCache s t ∧ KeepsTables s t ∧ t.csq.lifecycle = .ready ∧ t.pending = s.pending

/-- READ in READY (R138, R142, R144, R127): past its checks it takes the slot; for a first block that no segment holds, the least recent segment that is
FREE and holds no window is allocated to its window, and its sector operation is created where R107 and R108 put the block. -/
def Obligations.ReadAllocatesAndLooks : Prop :=
  ∀ (tag first count i : Nat) (s : State), QuietReady tag s → s.svc.cal.stage = .idle → 1 ≤ count → count ≤ 256 → s.txe.labelStatus = .valid →
    first + count ≤ s.txe.capacity → findWindow (windowBase first) s = none → freeCandidate s = some i → i < s.sgc.segments.length →
    Leads (.read tag first count) s fun t =>
      Executes tag (.read first count) .inSlot s t ∧
      segmentAt t i = { base := windowBase first, valid := [], dirty := [], attachment := .order } ∧
      (∀ k, k ≠ i → segmentAt t k = segmentAt s k) ∧ t.sgc.recency = i :: s.sgc.recency.filter (fun k => k != i) ∧
      t.sgc.buffer = s.sgc.buffer ∧
      (∃ o, t.txe.op = some o ∧ o.target = .block first ∧ o.dir = .read ∧ o.cylinder = (mapBlock s.txe first).cylinder ∧
        o.head = (mapBlock s.txe first).head ∧ o.sector = (mapBlock s.txe first).sector ∧ o.retries = 0 ∧ o.phase ≠ .transferring) ∧
      t.spc = s.spc ∧ t.smn = s.smn ∧ KeepsLink s t ∧ KeepsTables s t ∧ t.csq.lifecycle = .ready ∧ t.pending = s.pending

/-- WRITE in READY (R138, R149): past its checks it takes the slot with the expected index 0 and waits for its frames; a write-protected cartridge ends it
WRITE_PROTECTED, and a range past the capacity OUT_OF_RANGE at the first block out of range. -/
def Obligations.WriteTakesTheSlot : Prop :=
  ∀ (tag first count : Nat) (s : State), QuietReady tag s → 1 ≤ count → count ≤ 256 → s.txe.labelStatus = .valid →
    (s.csq.writeProtected = false → first + count ≤ s.txe.capacity →
      Leads (.write tag first count) s fun t =>
        Executes tag (.write first count) .inSlot s t ∧ t.lif.expectedIndex = 0 ∧ (t.txe.job.map fun j => j.kind) = some .order ∧ t.txe.op = none ∧
        KeepsMechanism s t ∧ KeepsLink s t ∧ KeepsCache s t ∧ KeepsTables s t ∧ t.csq.lifecycle = .ready) ∧
    (s.csq.writeProtected = true →
      Leads (.write tag first count) s fun t =>
        EndedAtOnce tag (.write first count) .writeProtected (.block first) s t ∧ KeepsMechanism s t ∧ KeepsLink s t ∧ KeepsCache s t ∧
        KeepsTables s t) ∧
    (s.csq.writeProtected = false → s.txe.capacity < first + count →
      Leads (.write tag first count) s fun t =>
        EndedAtOnce tag (.write first count) .outOfRange (.block (if s.txe.capacity ≤ first then first else s.txe.capacity)) s t ∧
        KeepsMechanism s t ∧ KeepsLink s t ∧ KeepsCache s t ∧ KeepsTables s t)

/-- FLUSH in READY (R152, R155): with no dirty block it ends DONE at once. In a cache whose records are sound it begins on the lowest dirty block of all,
as a WRITE sector operation where the block lies; at each WRITE_FIELD_END the block written leaves the dirty set, stays valid and is counted, and the
lowest dirty block left follows; after the last the order ends DONE, or RECOVERED after a retry, an ABORT pending or not (R181, assumption 21), while
an ABORT pending with a dirty block left ends it ABORTED (R126), the rest staying dirty. -/
def Obligations.FlushWritesInOrder : Prop :=
  ∀ (tag n m : Nat) (o : SectorOp) (e : Executing) (s : State), s.svc.cal.stage = .idle →
    (QuietReady tag s → dirtyCount s = 0 → Unattached s →
      Leads (.flush tag) s fun t =>
        EndedAtOnce tag .flush .done .noDetail s t ∧ t.txe.job = none ∧ KeepsMechanism s t ∧ KeepsLink s t ∧ KeepsCache s t ∧ KeepsTables s t) ∧
    (QuietReady tag s → CacheSound s → LeastDirty n s →
      Leads (.flush tag) s fun t =>
        Executes tag .flush .inSlot s t ∧ t.txe.job = some (orderJob .flush) ∧ WorksOn (.block n) .write (mapBlock s.txe n) t ∧
        heldBlocks t = heldBlocks s ∧ t.sgc.buffer = s.sgc.buffer ∧ t.txe.gate = false ∧ KeepsTables s t ∧ t.csq.lifecycle = .ready) ∧
    (CacheSound s → n ∈ dirtyBlocks s → s.txe.op = some o → o.phase = .transferring → o.dir = .write → o.target = .block n →
      s.txe.job = some (orderJob .flush) → s.lif.executing = some e → s.txe.yieldPending = false →
      (s.txe.endPending = .no → m ∈ dirtyBlocks s → m ≠ n → (∀ k ∈ dirtyBlocks s, k ≠ n → m ≤ k) →
        Leads .writeFieldEnd s fun t =>
          dirtyBlocks t = (dirtyBlocks s).filter (fun k => k != n) ∧
          t.sgc.segments.map (fun g => (g.base, g.valid)) = s.sgc.segments.map (fun g => (g.base, g.valid)) ∧
          t.lif.executing = some { e with blocks := e.blocks + 1 } ∧ t.txe.job = s.txe.job ∧
          WorksOn (.block m) .write (mapBlock s.txe m) t ∧ t.txe.gate = false ∧ t.sgc.buffer = s.sgc.buffer ∧ KeepsTables s t ∧
          t.csq = s.csq ∧ t.lif.reports = s.lif.reports) ∧
      (s.txe.endPending = .abort → m ∈ dirtyBlocks s → m ≠ n → e.remnant = false → e.order.kind = .flush → NothingWaits s →
        s.sgc.flushWanted = false →
        Leads .writeFieldEnd s fun t =>
          dirtyBlocks t = (dirtyBlocks s).filter (fun k => k != n) ∧
          t.sgc.segments.map (fun g => (g.base, g.valid)) = s.sgc.segments.map (fun g => (g.base, g.valid)) ∧
          t.lif.executing = none ∧ t.txe.job = none ∧ t.txe.op = none ∧
          t.lif.reports = s.lif.reports ++
            [{ tag := e.order.tag, kind := .flush, outcome := .aborted, blocks := e.blocks + 1, detail := .noDetail, lifecycle := .ready }] ∧
          t.txe.gate = false ∧ t.sgc.buffer = s.sgc.buffer ∧ KeepsMechanism s t ∧ KeepsTables s t ∧ t.csq = s.csq) ∧
      (dirtyBlocks s = [n] → e.remnant = false → e.order.kind = .flush → NothingWaits s →
        Leads .writeFieldEnd s fun t =>
          dirtyBlocks t = [] ∧ t.sgc.segments.map (fun g => (g.base, g.valid)) = s.sgc.segments.map (fun g => (g.base, g.valid)) ∧
          t.lif.executing = none ∧ t.txe.job = none ∧ t.txe.op = none ∧
          t.lif.reports = s.lif.reports ++
            [{ tag := e.order.tag, kind := .flush, outcome := if s.txe.jobRecovered || decide (0 < o.retries) then .recovered else .done,
               blocks := e.blocks + 1, detail := .noDetail, lifecycle := .ready }] ∧
          t.txe.gate = false ∧ t.sgc.buffer = s.sgc.buffer ∧ KeepsMechanism s t ∧ KeepsTables s t ∧ t.csq = s.csq))

/-- REASSIGN in READY (R111, R112): past the checks of the table an entry with the lowest free spare is inserted, label modified is set, and the order
ends DONE; a block that is valid in its segment joins the dirty set and stays valid, and for another block the cache is unchanged; a block that has an
entry, and a block out of range, leave the tables unchanged. -/
def Obligations.ReassignInsertsAnEntry : Prop :=
  ∀ (tag block k i : Nat) (s : State), QuietReady tag s → Unattached s → s.txe.labelStatus = .valid → s.csq.writeProtected = false →
    (block < s.txe.capacity → lookupDefect block s.txe.defects = none → s.txe.defects.length < 128 →
      freeSpare s.txe.spareCount s.txe.defects = some k → blockValid block s = false →
      Leads (.reassign tag block) s fun t =>
        EndedAtOnce tag (.reassign block) .done (.block block) s t ∧ t.txe.defects = insertDefect { block := block, spare := k } s.txe.defects ∧
        t.txe.labelModified = true ∧ t.txe.labelStatus = .valid ∧ t.txe.record = s.txe.record ∧ t.txe.zones = s.txe.zones ∧
        KeepsMechanism s t ∧ KeepsLink s t ∧ KeepsCache s t) ∧
    (block < s.txe.capacity → lookupDefect block s.txe.defects = none → s.txe.defects.length < 128 →
      freeSpare s.txe.spareCount s.txe.defects = some k → findWindow (windowBase block) s = some i → block % 16 ∈ (segmentAt s i).valid →
      Leads (.reassign tag block) s fun t =>
        EndedAtOnce tag (.reassign block) .done (.block block) s t ∧ t.txe.defects = insertDefect { block := block, spare := k } s.txe.defects ∧
        t.txe.labelModified = true ∧ t.txe.labelStatus = .valid ∧ t.txe.record = s.txe.record ∧ t.txe.zones = s.txe.zones ∧
        (segmentAt t i).dirty = insertNat (block % 16) (segmentAt s i).dirty ∧ block % 16 ∈ (segmentAt t i).valid ∧
        (∀ k, k ≠ i → segmentAt t k = segmentAt s k) ∧ t.sgc.recency = s.sgc.recency ∧ t.sgc.buffer = s.sgc.buffer ∧
        KeepsMechanism s t ∧ KeepsLink s t) ∧
    (block < s.txe.capacity → (lookupDefect block s.txe.defects).isSome = true →
      Leads (.reassign tag block) s fun t =>
        EndedAtOnce tag (.reassign block) .done (.block block) s t ∧ KeepsMechanism s t ∧ KeepsLink s t ∧ KeepsCache s t ∧ KeepsTables s t) ∧
    (s.txe.capacity ≤ block →
      Leads (.reassign tag block) s fun t =>
        EndedAtOnce tag (.reassign block) .outOfRange (.block block) s t ∧ KeepsMechanism s t ∧ KeepsLink s t ∧ KeepsCache s t ∧ KeepsTables s t)

/-- COMMIT_LABEL in READY (R118, R119): the label image is formed in the label store and its sector 1 sought first; a FOREIGN label without the overwrite
option and a write-protected cartridge are refused. -/
def Obligations.CommitBeginsTheLabelWrite : Prop :=
  ∀ (tag option : Nat) (s : State), QuietReady tag s → s.svc.cal.stage = .idle → option ≤ 1 →
    (s.txe.labelStatus ≠ .unread → s.csq.writeProtected = false → (s.txe.labelStatus = .foreign → option = 1) →
      Leads (.commitLabel tag option) s fun t =>
        Executes tag (.commitLabel option) .inSlot s t ∧ t.txe.labelStore = labelSectors s.txe ∧
        (∃ o, t.txe.op = some o ∧ o.target = .label 1 ∧ o.dir = .write ∧ o.cylinder = 0 ∧ o.head = 0 ∧ o.sector = 1 ∧ o.phase ≠ .transferring) ∧
        t.spc = s.spc ∧ t.smn = s.smn ∧ KeepsLink s t ∧ KeepsCache s t ∧ KeepsTables s t ∧ t.csq.lifecycle = .ready) ∧
    (s.csq.writeProtected = false → s.txe.labelStatus = .foreign → option = 0 →
      Leads (.commitLabel tag option) s fun t =>
        EndedAtOnce tag (.commitLabel option) .foreign (.table 6) s t ∧ KeepsMechanism s t ∧ KeepsLink s t ∧ KeepsCache s t ∧
        KeepsTables s t) ∧
    (s.csq.writeProtected = true → s.txe.labelStatus ≠ .unread →
      Leads (.commitLabel tag option) s fun t =>
        EndedAtOnce tag (.commitLabel option) .writeProtected (.table 6) s t ∧ KeepsMechanism s t ∧ KeepsLink s t ∧ KeepsCache s t ∧
        KeepsTables s t)

/-- CALIBRATE in READY with the slot empty and the heads on track (R13, R95, R96, R101): CALIBRATE is entered, the pass is the order's, and the seek of
band 0 on cylinder 75 begins. A valid SERVO_SAMPLE in GATHERING that stays in FOLLOW is summed and counted (R97); the 64th corrects the band's entry,
clears the integrator and adds the band to those done, and the seek of the next band begins (R98); a fall discards the gathering and goes back to
SEEKING on the same target, and a second one fails the band. After band 7 the pass completes (R99): due cleared, the temperature recorded, the result
SUCCESS with all eight bands done and else PARTIAL with CAL_FAIL, the requester NONE; READY is entered, and the order ends DONE or SEEK_ERROR (R101). -/
def Obligations.CalibrationPassRuns : Prop :=
  ∀ (tag n : Nat) (r : ServoRecord) (e : Executing) (s : State),
    (QuietReady tag s → s.svc.cal.stage = .idle → OnTrack s → s.svc.targetCylinder ≠ 75 →
      Leads (.calibrate tag) s fun t =>
        Executes tag .calibrate .waitPass s t ∧ t.csq.lifecycle = .calibrate ∧ t.svc.cal.due = true ∧ t.svc.cal.passOrder = some tag ∧
        t.svc.cal.stage = .seeking ∧ t.svc.cal.band = 0 ∧ t.svc.cal.bandsDone = [] ∧ t.svc.mode = .seek ∧ t.svc.targetCylinder = 75 ∧
        t.svc.targetHead = 0 ∧ t.svc.requester = .calibration ∧ t.svc.seekStatus = .outstanding ∧ t.svc.bias = s.svc.bias ∧
        t.spc = s.spc ∧ t.smn = s.smn ∧ KeepsLink s t ∧ KeepsCache s t ∧ KeepsTables s t ∧ t.pending = s.pending) ∧
    (Gathers r s → (sampleError r s.svc).natAbs ≤ 24 → s.svc.cal.gathered < 63 →
      exec (.servoSample r) s = .next (finish { s with svc := { sampledSvc .follow r s.svc with
        writePermission := true,
        cal := { s.svc.cal with bandSum := s.svc.cal.bandSum + sampleTerms r s.svc, gathered := s.svc.cal.gathered + 1 } } })) ∧
    (Gathers r s → (sampleError r s.svc).natAbs ≤ 24 → s.svc.cal.gathered = 63 → s.svc.cal.band < 7 → s.svc.requester = .calibration →
      s.svc.targetCylinder = 150 * s.svc.cal.band + 75 →
      exec (.servoSample r) s = .next (finish { s with svc := seeksNextBand { sampledSvc .follow r s.svc with
        bias := correctedBias r s.svc, cal := { s.svc.cal with bandsDone := insertNat s.svc.cal.band s.svc.cal.bandsDone } } })) ∧
    (Gathers r s → s.svc.cal.falls = 0 →
      (24 < (sampleError r s.svc).natAbs → (sampleError r s.svc).natAbs ≤ 256 →
        exec (.servoSample r) s = .next (finish { s with svc := { sampledSvc .settle r s.svc with
          writePermission := false, settleCount := 0, seekStatus := .outstanding, timeoutCount := 0,
          cal := { s.svc.cal with stage := .seeking, falls := 1, bandSum := 0, gathered := 0 } } })) ∧
      (256 < (sampleError r s.svc).natAbs →
        exec (.servoSample r) s = .next (finish { s with svc := { byVelocityLaw r (sampleError r s.svc) (sampleVelocity r s.svc) s.svc with
          integrator := 0, settleCount := 0, seekStatus := .outstanding, timeoutCount := 0,
          cal := { s.svc.cal with stage := .seeking, falls := 1, bandSum := 0, gathered := 0 } } }))) ∧
    (Gathers r s → s.svc.cal.falls = 1 → 24 < (sampleError r s.svc).natAbs → (sampleError r s.svc).natAbs ≤ 256 → s.svc.cal.band < 7 →
      s.svc.requester = .calibration → s.svc.targetCylinder = 150 * s.svc.cal.band + 75 →
      exec (.servoSample r) s = .next (finish { s with svc := seeksNextBand (sampledSvc .settle r s.svc) })) ∧
    (Gathers r s → (sampleError r s.svc).natAbs ≤ 24 → s.svc.cal.gathered = 63 → s.svc.cal.band = 7 → s.csq.lifecycle = .calibrate →
      s.lif.executing = some e → e.order.kind = .calibrate → e.stage = .waitPass → e.remnant = false → s.svc.cal.passOrder = some n →
      s.lif.orderQueue = [] → s.txe.job = none → s.txe.orderWaits = false → s.txe.departureWaits = false → s.sgc.flushWanted = false →
      s.csq.ejectPending = false → s.csq.carried = none →
      Leads (.servoSample r) s fun t =>
        t.svc = { sampledSvc .follow r s.svc with
          writePermission := true, bias := correctedBias r s.svc, integrator := 0, requester := .nobody,
          cal := { s.svc.cal with
            bandSum := s.svc.cal.bandSum + sampleTerms r s.svc, gathered := 64, bandsDone := insertNat 7 s.svc.cal.bandsDone,
            lastResult := if EarlierBandsDone s.svc then .success else .partialPass,
            temperature := some s.smn.temp.latest, due := false, stage := .idle, passOrder := none } } ∧
        t.csq.lifecycle = .ready ∧ t.csq.standby = standbyFrom s.lif.settings ∧ t.lif.executing = none ∧
        t.lif.reports = s.lif.reports ++
          [{ tag := e.order.tag, kind := .calibrate, outcome := if EarlierBandsDone s.svc then .done else .seekError,
             blocks := e.blocks, detail := .table 2, lifecycle := .ready }] ∧
        t.lif.notices = (if EarlierBandsDone s.svc then s.lif.notices else s.lif.notices ||| 2048#16) ∧
        t.spc = s.spc ∧ t.smn = s.smn ∧ KeepsCache s t ∧ KeepsTables s t ∧ t.pending = s.pending)

/-- The six LOAD_TABLE rows (R177, R178): a LOAD_TABLE of a coded table with its frame count gathers its image from index 0 and has touched no table; a
LOAD_TABLE BIAS with a wrong frame count ends BAD_PARAMETER with the table id. Dispatch in READY starts the standby timer again (R14). -/
def Obligations.LoadTablesGather : Prop :=
  ∀ (tag frames : Nat) (s : State), Quiet tag s →
    (frames = 1 →
      (Leads (.loadTableProfile tag 1 frames) s fun t =>
        Executes tag (.loadTable 1 1) .gathering s t ∧ t.lif.expectedIndex = 0 ∧ KeepsMechanism s t ∧ KeepsLink s t ∧ KeepsCache s t ∧
        KeepsTables s t ∧ t.csq = dispatchedCsq s.lif.settings s.csq) ∧
      (Leads (.loadTableBias tag frames) s fun t =>
        Executes tag (.loadTable 2 1) .gathering s t ∧ t.lif.expectedIndex = 0 ∧ KeepsMechanism s t ∧ KeepsLink s t ∧ KeepsCache s t ∧
        KeepsTables s t ∧ t.csq = dispatchedCsq s.lif.settings s.csq) ∧
      (Leads (.loadTableZone tag frames) s fun t =>
        Executes tag (.loadTable 3 1) .gathering s t ∧ t.lif.expectedIndex = 0 ∧ KeepsMechanism s t ∧ KeepsLink s t ∧ KeepsCache s t ∧
        KeepsTables s t ∧ t.csq = dispatchedCsq s.lif.settings s.csq) ∧
      (Leads (.loadTableMonitor tag frames) s fun t =>
        Executes tag (.loadTable 4 1) .gathering s t ∧ t.lif.expectedIndex = 0 ∧ KeepsMechanism s t ∧ KeepsLink s t ∧ KeepsCache s t ∧
        KeepsTables s t ∧ t.csq = dispatchedCsq s.lif.settings s.csq) ∧
      (Leads (.loadTableLabel tag frames) s fun t =>
        Executes tag (.loadTable 6 1) .gathering s t ∧ t.lif.expectedIndex = 0 ∧ KeepsMechanism s t ∧ KeepsLink s t ∧ KeepsCache s t ∧
        KeepsTables s t ∧ t.csq = dispatchedCsq s.lif.settings s.csq)) ∧
    ((frames = 1 ∨ frames = 2) →
      Leads (.loadTableDefect tag frames) s fun t =>
        Executes tag (.loadTable 5 frames) .gathering s t ∧ t.lif.expectedIndex = 0 ∧ KeepsMechanism s t ∧ KeepsLink s t ∧ KeepsCache s t ∧
        KeepsTables s t ∧ t.csq = dispatchedCsq s.lif.settings s.csq) ∧
    (frames ≠ 1 →
      Leads (.loadTableBias tag frames) s fun t =>
        EndedAtOnce tag (.loadTable 2 frames) .badParameter (.table 2) s t ∧ KeepsMechanism s t ∧ KeepsLink s t ∧ KeepsCache s t ∧
        KeepsTables s t ∧ t.csq = dispatchedCsq s.lif.settings s.csq)

/-- The last frame of a LOAD_TABLE, table by table (R178): an image that passes its owner's checks replaces the table whole and the order ends DONE; one
that fails a check ends it with the outcome of that check and nothing changed. PROFILE (R79) and BIAS (R91) in every state. ZONE (R106) in EMPTY, and
in STOPPED with nothing dirty: the capacity and spare count follow, the label is UNREAD, the record and the defect list are gone, and every segment is
FREE. MONITOR (R169): the limits of all five channels are replaced, the runs are cleared, every condition ends, and readings and fault flags stay.
DEFECT (R110) in READY on a VALID label with nothing dirty and the slot empty: the list is replaced, label modified is set, and every segment is FREE.
LABEL (R117) in READY: serial number and name are replaced, or a record is made that holds them, whose checksum 0 is the model's choice (assumption
23); label modified is set in VALID. -/
def Obligations.TablesLoadWhole : Prop :=
  ∀ (tag : Nat) (payload : List Byte) (prev : List (List Byte)) (limits : List Limits) (l : List DefectEntry) (s : State),
    (LastFrameDue tag 1 [] s → payload.length = 99 →
      (profileOk (profileOf payload) = true →
        Leads (.dataOutFrame tag 0 payload) s fun t =>
          t.svc = { s.svc with profile := profileOf payload } ∧ profileBytes t.svc.profile = payload ∧
          EndedAtOnce tag (.loadTable 1 1) .done (.table 1) s t ∧ t.spc = s.spc ∧ t.smn = s.smn ∧ KeepsLink s t ∧ KeepsCache s t ∧
          KeepsTables s t ∧ t.csq = s.csq) ∧
      (profileOk (profileOf payload) = false → Leads (.dataOutFrame tag 0 payload) s fun t => LoadRefused tag 1 1 .badParameter s t)) ∧
    (LastFrameDue tag 2 [] s → payload.length = 8 →
      ((∀ b ∈ payload, (-32 : Int) ≤ b.toInt ∧ b.toInt ≤ 31) →
        Leads (.dataOutFrame tag 0 payload) s fun t =>
          t.svc = { s.svc with bias := payload.map fun b => b.toInt } ∧ EndedAtOnce tag (.loadTable 2 1) .done (.table 2) s t ∧
          t.spc = s.spc ∧ t.smn = s.smn ∧ KeepsLink s t ∧ KeepsCache s t ∧ KeepsTables s t ∧ t.csq = s.csq) ∧
      ((∃ b ∈ payload, b.toInt < (-32 : Int) ∨ (31 : Int) < b.toInt) →
        Leads (.dataOutFrame tag 0 payload) s fun t => LoadRefused tag 2 1 .badParameter s t)) ∧
    (LastFrameDue tag 3 [] s → payload.length = 18 →
      (GateSafe s → (s.csq.lifecycle = .empty ∨ (s.csq.lifecycle = .stopped ∧ dirtyCount s = 0 ∧ s.txe.labelModified = false)) →
        (zoneTableOk (zoneTableOf payload) = true →
          Leads (.dataOutFrame tag 0 payload) s fun t =>
            t.txe = { s.txe with
              zones := zoneTableOf payload, capacity := capacityOf (zoneTableOf payload), spareCount := spareCountOf (zoneTableOf payload),
              labelStatus := .unread, record := none, defects := [], labelModified := false } ∧
            (∀ g ∈ t.sgc.segments, g.valid = [] ∧ g.dirty = [] ∧ g.attachment = .free) ∧
            EndedAtOnce tag (.loadTable 3 1) .done (.table 3) s t ∧ KeepsMechanism s t ∧ KeepsLink s t ∧ t.csq = s.csq) ∧
        (zoneTableOk (zoneTableOf payload) = false → Leads (.dataOutFrame tag 0 payload) s fun t => LoadRefused tag 3 1 .badParameter s t)) ∧
      (s.csq.lifecycle = .stopped → (dirtyCount s ≠ 0 ∨ s.txe.labelModified = true) →
        Leads (.dataOutFrame tag 0 payload) s fun t => LoadRefused tag 3 1 .dirty s t) ∧
      (s.csq.lifecycle ≠ .empty → s.csq.lifecycle ≠ .stopped →
        Leads (.dataOutFrame tag 0 payload) s fun t => LoadRefused tag 3 1 .notReady s t)) ∧
    (LastFrameDue tag 4 [] s → payload.length = 35 →
      (monitorOf payload 5 = some limits → (s.csq.lifecycle ≠ .stopped ∨ s.csq.spinUpRequest = false) → s.sgc.heldDeparture = false →
        Leads (.dataOutFrame tag 0 payload) s fun t =>
          (channels.flatMap fun c => limitsBytes (channel t c).limits) = payload ∧
          (∀ c ∈ channels, channel t c = { channel s c with
            limits := (channel t c).limits, runSide := .neither, runCount := 0, inRange := 0, active := .neither }) ∧
          t.smn.slot = s.smn.slot ∧ t.smn.slotTimer = s.smn.slotTimer ∧ t.smn.roundComplete = s.smn.roundComplete ∧ writeHold t = false ∧
          gateShut t = false ∧ EndedAtOnce tag (.loadTable 4 1) .done (.table 4) s t ∧ t.spc = s.spc ∧ t.svc = s.svc ∧ KeepsLink s t ∧
          KeepsCache s t ∧ KeepsTables s t ∧ t.csq = s.csq) ∧
      (monitorOf payload 5 = none → Leads (.dataOutFrame tag 0 payload) s fun t => LoadRefused tag 4 1 .badParameter s t)) ∧
    (LastFrameDue tag 5 prev s → prev.length ≤ 1 → payload.length = 258 →
      (s.csq.lifecycle = .ready → s.txe.labelStatus = .valid → s.csq.writeProtected = false → dirtyCount s = 0 →
        (defectsOf (prev ++ [payload]) = some l → defectsOk s.txe.capacity s.txe.spareCount l = true → s.txe.job = none → s.svc.cal.due = false →
          s.txe.orderWaits = false → s.txe.departureWaits = false → s.txe.op = none → s.txe.gate = false → s.txe.jobRecovered = false →
          Leads (.dataOutFrame tag prev.length payload) s fun t =>
            t.txe.defects = l ∧ t.txe.labelModified = true ∧ t.txe.labelStatus = .valid ∧ t.txe.record = s.txe.record ∧ t.txe.zones = s.txe.zones ∧
            (∀ g ∈ t.sgc.segments, g.valid = [] ∧ g.dirty = [] ∧ g.attachment = .free) ∧ t.txe.job = none ∧
            EndedAtOnce tag (.loadTable 5 (prev.length + 1)) .done (.table 5) s t ∧ KeepsMechanism s t ∧ KeepsLink s t ∧ t.csq = s.csq) ∧
        ((defectsOf (prev ++ [payload]) = none ∨ (defectsOf (prev ++ [payload]) = some l ∧ defectsOk s.txe.capacity s.txe.spareCount l = false)) →
          Leads (.dataOutFrame tag prev.length payload) s fun t => LoadRefused tag 5 (prev.length + 1) .badParameter s t)) ∧
      (s.csq.lifecycle = .empty → Leads (.dataOutFrame tag prev.length payload) s fun t => LoadRefused tag 5 (prev.length + 1) .noCartridge s t) ∧
      (s.csq.lifecycle ≠ .empty → s.csq.lifecycle ≠ .ready →
        Leads (.dataOutFrame tag prev.length payload) s fun t => LoadRefused tag 5 (prev.length + 1) .notReady s t) ∧
      (s.csq.lifecycle = .ready → s.txe.labelStatus ≠ .valid →
        Leads (.dataOutFrame tag prev.length payload) s fun t => LoadRefused tag 5 (prev.length + 1) .labelBad s t) ∧
      (s.csq.lifecycle = .ready → s.txe.labelStatus = .valid → s.csq.writeProtected = true →
        Leads (.dataOutFrame tag prev.length payload) s fun t => LoadRefused tag 5 (prev.length + 1) .writeProtected s t) ∧
      (s.csq.lifecycle = .ready → s.txe.labelStatus = .valid → s.csq.writeProtected = false → dirtyCount s ≠ 0 →
        Leads (.dataOutFrame tag prev.length payload) s fun t => LoadRefused tag 5 (prev.length + 1) .dirty s t)) ∧
    (LastFrameDue tag 6 [] s → payload.length = 20 →
      (GateSafe s → s.csq.lifecycle = .ready → s.txe.labelStatus ≠ .unread → s.csq.writeProtected = false →
        Leads (.dataOutFrame tag 0 payload) s fun t =>
          t.txe = { s.txe with
            record := some (match s.txe.record with
              | some c => { c with serial := fieldAt 0 4 payload, name := payload.drop 4 }
              | none => { signature := signature, formatId := s.txe.zones.formatId, serial := fieldAt 0 4 payload, name := payload.drop 4,
                          sequence := 0, defectCount := 0, checksum := 0 }),
            labelModified := s.txe.labelModified || decide (s.txe.labelStatus = .valid) } ∧
          EndedAtOnce tag (.loadTable 6 1) .done (.table 6) s t ∧ KeepsMechanism s t ∧ KeepsLink s t ∧ KeepsCache s t ∧ t.csq = s.csq) ∧
      (s.csq.lifecycle = .empty → Leads (.dataOutFrame tag 0 payload) s fun t => LoadRefused tag 6 1 .noCartridge s t) ∧
      (s.csq.lifecycle ≠ .empty → s.csq.lifecycle ≠ .ready → Leads (.dataOutFrame tag 0 payload) s fun t => LoadRefused tag 6 1 .notReady s t) ∧
      (s.csq.lifecycle = .ready → s.txe.labelStatus = .unread → Leads (.dataOutFrame tag 0 payload) s fun t => LoadRefused tag 6 1 .labelBad s t) ∧
      (s.csq.lifecycle = .ready → s.txe.labelStatus ≠ .unread → s.csq.writeProtected = true →
        Leads (.dataOutFrame tag 0 payload) s fun t => LoadRefused tag 6 1 .writeProtected s t))

/-- The six READ_TABLE rows (R79, R91, R121, R169, R178): the image is formed at dispatch, in the layouts of section 11.4, and offered from index 0; no
table is touched. Flags of one byte are sent as 1 and 0, and bits that section 11.4 does not name as 0 (assumption 47). Dispatch in READY starts the
standby timer again (R14). -/
def Obligations.ReadTablesOffer : Prop :=
  ∀ (tag : Nat) (s : State), Quiet tag s →
    (Leads (.readTableProfile tag 1) s fun t =>
      Executes tag (.readTable 1) .offering s t ∧ t.lif.readImage = [profileBytes s.svc.profile] ∧ t.lif.readIndex = 0 ∧ KeepsMechanism s t ∧
      KeepsCache s t ∧ KeepsTables s t ∧ t.csq = dispatchedCsq s.lif.settings s.csq) ∧
    (Leads (.readTableBias tag) s fun t =>
      Executes tag (.readTable 2) .offering s t ∧ t.lif.readImage = [biasBytes s.svc] ∧ t.lif.readIndex = 0 ∧ KeepsMechanism s t ∧
      KeepsCache s t ∧ KeepsTables s t ∧ t.csq = dispatchedCsq s.lif.settings s.csq) ∧
    (Leads (.readTableZone tag) s fun t =>
      Executes tag (.readTable 3) .offering s t ∧ t.lif.readImage = [zoneBytes s.txe] ∧ t.lif.readIndex = 0 ∧ KeepsMechanism s t ∧
      KeepsCache s t ∧ KeepsTables s t ∧ t.csq = dispatchedCsq s.lif.settings s.csq) ∧
    (Leads (.readTableMonitor tag) s fun t =>
      Executes tag (.readTable 4) .offering s t ∧ t.lif.readImage = [monitorBytes s] ∧ t.lif.readIndex = 0 ∧ KeepsMechanism s t ∧
      KeepsCache s t ∧ KeepsTables s t ∧ t.csq = dispatchedCsq s.lif.settings s.csq) ∧
    (Leads (.readTableDefect tag) s fun t =>
      Executes tag (.readTable 5) .offering s t ∧ t.lif.readImage = defectFrames s.txe.defects ∧ t.lif.readIndex = 0 ∧ KeepsMechanism s t ∧
      KeepsCache s t ∧ KeepsTables s t ∧ t.csq = dispatchedCsq s.lif.settings s.csq) ∧
    (Leads (.readTableLabel tag) s fun t =>
      Executes tag (.readTable 6) .offering s t ∧ t.lif.readImage = [labelBytes s.txe] ∧ t.lif.readIndex = 0 ∧ KeepsMechanism s t ∧
      KeepsCache s t ∧ KeepsTables s t ∧ t.csq = dispatchedCsq s.lif.settings s.csq)

/-! ### Arithmetic and formats -/

/-- The offset of a sample that passes test 4 (R55): the rounded quotient clamped, which changes +128 alone; always in range; never at an exact half; and
the same for bursts in the same ratio. -/
def Obligations.OffsetFollowsTheRatio : Prop :=
  ∀ a b c d : Nat, a < 256 → b < 256 → c < 256 → d < 256 → 40 ≤ a + b → 40 ≤ c + d →
    let q := roundDiv (128 * ((a : Int) - b)) ((a : Int) + b)
    ∀ r r' : ServoRecord, r.burstA = a → r.burstB = b → r'.burstA = c → r'.burstB = d →
      (-128 ≤ q ∧ q ≤ 128) ∧ (q = 128 ↔ b = 0) ∧ (q = -128 ↔ a = 0) ∧ (offsetOf r = if q = 128 then 127 else q) ∧
      (-128 ≤ offsetOf r ∧ offsetOf r ≤ 127) ∧
      (2 * (q * ((a : Int) + b) - 128 * ((a : Int) - b))).natAbs < a + b ∧
      (a * d = c * b → offsetOf r = offsetOf r')

/-- A well formed zone table (R104, R105) gives at most 95,840 blocks and 34 to 255 spares, and each block below the capacity its own data sector below
the spare cylinders (R107). -/
def Obligations.BlocksHaveTheirOwnSectors : Prop :=
  ∀ t : ZoneTable, zoneTableOk t = true →
    capacityOf t ≤ 95840 ∧ 34 ≤ spareCountOf t ∧ spareCountOf t ≤ 255 ∧
    ∀ n, n < capacityOf t →
      (1 ≤ (mapZones t.spareStart t.zones n).cylinder ∧ (mapZones t.spareStart t.zones n).cylinder < t.spareStart ∧
        (mapZones t.spareStart t.zones n).head ≤ 1 ∧ (mapZones t.spareStart t.zones n).sector < 40) ∧
      ∀ m, m < capacityOf t → mapZones t.spareStart t.zones n = mapZones t.spareStart t.zones m → n = m

/-- A label written whole reads back (R116, R118, R122, R187): the three sectors formed from a table in order, with or without a record before, are
decided VALID, with the record written and the same defect list. -/
def Obligations.LabelReadsBack : Prop :=
  ∀ t : Txe, zoneTableOk t.zones = true → t.capacity = capacityOf t.zones → t.spareCount = spareCountOf t.zones →
    (∀ r, t.record = some r → r.serial < 4294967296 ∧ r.name.length = 16) → defectsOk t.capacity t.spareCount t.defects = true →
    (labelSectors t).length = 3 ∧ (∀ x ∈ labelSectors t, x.length = 512) ∧
    signatureStatus ((labelSectors t).getD 0 []) = none ∧
    decideLabel t ((labelSectors t).getD 0 []) ((labelSectors t).getD 1 []) ((labelSectors t).getD 2 []) =
      (.valid, some (labelRecord t), t.defects)

/-- Every well-formed command that comes as a frame is decoded from the frame that encodes it, with every operand (R172, R173, R184, R185); a drive at
another address ignores it. -/
def Obligations.FramesDecodeToTheirCommands : Prop :=
  ∀ (address other : Nat) (c : Instr) (frame : List Byte), address < 4 → other < 4 → other ≠ address → c.wf = true →
    encodeCommand address c = some frame → decodeFrame address frame = .command c ∧ decodeFrame other frame = .ignored

/-! ### Invariants -/

/-- Every next state has its outputs derived: the write gate open only under the six conditions of R131, and the attention line as R183 derives it. -/
def Obligations.GateAndAttentionFollow : Prop :=
  ∀ s t : State, step s = .next t → GateSafe t ∧ AttentionFollows t

/-- Every step keeps an empty job slot without a sector operation, with the write gate closed and job recovered no (R123, R126, R127). -/
def Obligations.EveryStepKeepsTheSlotAtRest : Prop :=
  ∀ s t : State, SlotRests s → step s = .next t → SlotRests t

/-- Every step keeps the solenoids' interlock (R7, R8, R18). -/
def Obligations.EveryStepKeepsTheInterlock : Prop :=
  ∀ s t : State, SolenoidsInterlocked s → step s = .next t → SolenoidsInterlocked t

/-- Every step keeps the spindle outputs and the measurement phase as the spindle state fixes them, and the speed lock as the phase does (R30, R32). -/
def Obligations.EveryStepKeepsTheSpindleOutputs : Prop :=
  ∀ s t : State, SpindleOutputsFollow s → step s = .next t → SpindleOutputsFollow t

/-- Every step keeps the actuator command, the integrator and the bias entries in their ranges (R67, R82, R90). -/
def Obligations.EveryStepKeepsTheServoInRange : Prop :=
  ∀ s t : State, ServoInRange s → step s = .next t → ServoInRange t

/-- Every step keeps the segment records sound (R140): windows at multiples of 16, ascending sets of offsets below 16, each dirty block valid, no two
segments that hold a window with the same base; all eight segments in the recency list once each (R141); and the buffer's cells in canonical form. -/
def Obligations.EveryStepKeepsTheCacheSound : Prop :=
  ∀ s t : State, CacheSound s → step s = .next t → CacheSound t

/-- Every step keeps the label state sound: the zone table and what is derived from it (R104, R105), the defect list as R109 requires and empty unless the
label is VALID, label modified set only in VALID (R114), and a record in VALID and FOREIGN and none in UNREAD (R102). -/
def Obligations.EveryStepKeepsTheLabelSound : Prop :=
  ∀ s t : State, LabelSound s → step s = .next t → LabelSound t

/-- Every step keeps the places of the report queue reserved (R176). -/
def Obligations.EveryStepKeepsPlacesReserved : Prop :=
  ∀ s t : State, PlacesReserved s → step s = .next t → PlacesReserved t

/-- The state after reset meets every invariant. -/
def Obligations.ResetMeetsTheInvariants : Prop :=
  GateSafe State.reset ∧ AttentionFollows State.reset ∧ SlotRests State.reset ∧ SolenoidsInterlocked State.reset ∧ SpindleOutputsFollow State.reset ∧
    ServoInRange State.reset ∧ CacheSound State.reset ∧ LabelSound State.reset ∧ PlacesReserved State.reset
end

