-- ==== Sys2Proof/Laws/State.lean ====
section
/-! SUPPORT. One lemma per field per setter: what each setter of a block changes and what it leaves, so that no proof unfolds a record update. -/

namespace Sys2Proof.Machine

@[simp] theorem modCsq_csq (s : State) (f : Csq → Csq) : (s.modCsq f).csq = f s.csq := rfl
@[simp] theorem modCsq_spc (s : State) (f : Csq → Csq) : (s.modCsq f).spc = s.spc := rfl
@[simp] theorem modCsq_svc (s : State) (f : Csq → Csq) : (s.modCsq f).svc = s.svc := rfl
@[simp] theorem modCsq_txe (s : State) (f : Csq → Csq) : (s.modCsq f).txe = s.txe := rfl
@[simp] theorem modCsq_sgc (s : State) (f : Csq → Csq) : (s.modCsq f).sgc = s.sgc := rfl
@[simp] theorem modCsq_smn (s : State) (f : Csq → Csq) : (s.modCsq f).smn = s.smn := rfl
@[simp] theorem modCsq_lif (s : State) (f : Csq → Csq) : (s.modCsq f).lif = s.lif := rfl
@[simp] theorem modCsq_pins (s : State) (f : Csq → Csq) : (s.modCsq f).pins = s.pins := rfl
@[simp] theorem modCsq_pending (s : State) (f : Csq → Csq) : (s.modCsq f).pending = s.pending := rfl
@[simp] theorem modSpc_csq (s : State) (f : Spc → Spc) : (s.modSpc f).csq = s.csq := rfl
@[simp] theorem modSpc_spc (s : State) (f : Spc → Spc) : (s.modSpc f).spc = f s.spc := rfl
@[simp] theorem modSpc_svc (s : State) (f : Spc → Spc) : (s.modSpc f).svc = s.svc := rfl
@[simp] theorem modSpc_txe (s : State) (f : Spc → Spc) : (s.modSpc f).txe = s.txe := rfl
@[simp] theorem modSpc_sgc (s : State) (f : Spc → Spc) : (s.modSpc f).sgc = s.sgc := rfl
@[simp] theorem modSpc_smn (s : State) (f : Spc → Spc) : (s.modSpc f).smn = s.smn := rfl
@[simp] theorem modSpc_lif (s : State) (f : Spc → Spc) : (s.modSpc f).lif = s.lif := rfl
@[simp] theorem modSpc_pins (s : State) (f : Spc → Spc) : (s.modSpc f).pins = s.pins := rfl
@[simp] theorem modSpc_pending (s : State) (f : Spc → Spc) : (s.modSpc f).pending = s.pending := rfl
@[simp] theorem modSvc_csq (s : State) (f : Svc → Svc) : (s.modSvc f).csq = s.csq := rfl
@[simp] theorem modSvc_spc (s : State) (f : Svc → Svc) : (s.modSvc f).spc = s.spc := rfl
@[simp] theorem modSvc_svc (s : State) (f : Svc → Svc) : (s.modSvc f).svc = f s.svc := rfl
@[simp] theorem modSvc_txe (s : State) (f : Svc → Svc) : (s.modSvc f).txe = s.txe := rfl
@[simp] theorem modSvc_sgc (s : State) (f : Svc → Svc) : (s.modSvc f).sgc = s.sgc := rfl
@[simp] theorem modSvc_smn (s : State) (f : Svc → Svc) : (s.modSvc f).smn = s.smn := rfl
@[simp] theorem modSvc_lif (s : State) (f : Svc → Svc) : (s.modSvc f).lif = s.lif := rfl
@[simp] theorem modSvc_pins (s : State) (f : Svc → Svc) : (s.modSvc f).pins = s.pins := rfl
@[simp] theorem modSvc_pending (s : State) (f : Svc → Svc) : (s.modSvc f).pending = s.pending := rfl
@[simp] theorem modTxe_csq (s : State) (f : Txe → Txe) : (s.modTxe f).csq = s.csq := rfl
@[simp] theorem modTxe_spc (s : State) (f : Txe → Txe) : (s.modTxe f).spc = s.spc := rfl
@[simp] theorem modTxe_svc (s : State) (f : Txe → Txe) : (s.modTxe f).svc = s.svc := rfl
@[simp] theorem modTxe_txe (s : State) (f : Txe → Txe) : (s.modTxe f).txe = f s.txe := rfl
@[simp] theorem modTxe_sgc (s : State) (f : Txe → Txe) : (s.modTxe f).sgc = s.sgc := rfl
@[simp] theorem modTxe_smn (s : State) (f : Txe → Txe) : (s.modTxe f).smn = s.smn := rfl
@[simp] theorem modTxe_lif (s : State) (f : Txe → Txe) : (s.modTxe f).lif = s.lif := rfl
@[simp] theorem modTxe_pins (s : State) (f : Txe → Txe) : (s.modTxe f).pins = s.pins := rfl
@[simp] theorem modTxe_pending (s : State) (f : Txe → Txe) : (s.modTxe f).pending = s.pending := rfl
@[simp] theorem modSgc_csq (s : State) (f : Sgc → Sgc) : (s.modSgc f).csq = s.csq := rfl
@[simp] theorem modSgc_spc (s : State) (f : Sgc → Sgc) : (s.modSgc f).spc = s.spc := rfl
@[simp] theorem modSgc_svc (s : State) (f : Sgc → Sgc) : (s.modSgc f).svc = s.svc := rfl
@[simp] theorem modSgc_txe (s : State) (f : Sgc → Sgc) : (s.modSgc f).txe = s.txe := rfl
@[simp] theorem modSgc_sgc (s : State) (f : Sgc → Sgc) : (s.modSgc f).sgc = f s.sgc := rfl
@[simp] theorem modSgc_smn (s : State) (f : Sgc → Sgc) : (s.modSgc f).smn = s.smn := rfl
@[simp] theorem modSgc_lif (s : State) (f : Sgc → Sgc) : (s.modSgc f).lif = s.lif := rfl
@[simp] theorem modSgc_pins (s : State) (f : Sgc → Sgc) : (s.modSgc f).pins = s.pins := rfl
@[simp] theorem modSgc_pending (s : State) (f : Sgc → Sgc) : (s.modSgc f).pending = s.pending := rfl
@[simp] theorem modSmn_csq (s : State) (f : Smn → Smn) : (s.modSmn f).csq = s.csq := rfl
@[simp] theorem modSmn_spc (s : State) (f : Smn → Smn) : (s.modSmn f).spc = s.spc := rfl
@[simp] theorem modSmn_svc (s : State) (f : Smn → Smn) : (s.modSmn f).svc = s.svc := rfl
@[simp] theorem modSmn_txe (s : State) (f : Smn → Smn) : (s.modSmn f).txe = s.txe := rfl
@[simp] theorem modSmn_sgc (s : State) (f : Smn → Smn) : (s.modSmn f).sgc = s.sgc := rfl
@[simp] theorem modSmn_smn (s : State) (f : Smn → Smn) : (s.modSmn f).smn = f s.smn := rfl
@[simp] theorem modSmn_lif (s : State) (f : Smn → Smn) : (s.modSmn f).lif = s.lif := rfl
@[simp] theorem modSmn_pins (s : State) (f : Smn → Smn) : (s.modSmn f).pins = s.pins := rfl
@[simp] theorem modSmn_pending (s : State) (f : Smn → Smn) : (s.modSmn f).pending = s.pending := rfl
@[simp] theorem modLif_csq (s : State) (f : Lif → Lif) : (s.modLif f).csq = s.csq := rfl
@[simp] theorem modLif_spc (s : State) (f : Lif → Lif) : (s.modLif f).spc = s.spc := rfl
@[simp] theorem modLif_svc (s : State) (f : Lif → Lif) : (s.modLif f).svc = s.svc := rfl
@[simp] theorem modLif_txe (s : State) (f : Lif → Lif) : (s.modLif f).txe = s.txe := rfl
@[simp] theorem modLif_sgc (s : State) (f : Lif → Lif) : (s.modLif f).sgc = s.sgc := rfl
@[simp] theorem modLif_smn (s : State) (f : Lif → Lif) : (s.modLif f).smn = s.smn := rfl
@[simp] theorem modLif_lif (s : State) (f : Lif → Lif) : (s.modLif f).lif = f s.lif := rfl
@[simp] theorem modLif_pins (s : State) (f : Lif → Lif) : (s.modLif f).pins = s.pins := rfl
@[simp] theorem modLif_pending (s : State) (f : Lif → Lif) : (s.modLif f).pending = s.pending := rfl
@[simp] theorem modPins_csq (s : State) (f : Pins → Pins) : (s.modPins f).csq = s.csq := rfl
@[simp] theorem modPins_spc (s : State) (f : Pins → Pins) : (s.modPins f).spc = s.spc := rfl
@[simp] theorem modPins_svc (s : State) (f : Pins → Pins) : (s.modPins f).svc = s.svc := rfl
@[simp] theorem modPins_txe (s : State) (f : Pins → Pins) : (s.modPins f).txe = s.txe := rfl
@[simp] theorem modPins_sgc (s : State) (f : Pins → Pins) : (s.modPins f).sgc = s.sgc := rfl
@[simp] theorem modPins_smn (s : State) (f : Pins → Pins) : (s.modPins f).smn = s.smn := rfl
@[simp] theorem modPins_lif (s : State) (f : Pins → Pins) : (s.modPins f).lif = s.lif := rfl
@[simp] theorem modPins_pins (s : State) (f : Pins → Pins) : (s.modPins f).pins = f s.pins := rfl
@[simp] theorem modPins_pending (s : State) (f : Pins → Pins) : (s.modPins f).pending = s.pending := rfl

/-! ### Messages -/

@[simp] theorem done_state (s : State) : (done s).state = s := rfl
@[simp] theorem done_signals (s : State) : (done s).signals = [] := rfl
@[simp] theorem send_state (g : Signal) (s : State) : (send g s).state = s := rfl
@[simp] theorem send_signals (g : Signal) (s : State) : (send g s).signals = [g] := rfl
@[simp] theorem andThen_state (a : Act) (f : State → Act) : (a.andThen f).state = (f a.state).state := rfl
@[simp] theorem andThen_signals (a : Act) (f : State → Act) : (a.andThen f).signals = a.signals ++ (f a.state).signals := rfl
@[simp] theorem done_andThen (s : State) (f : State → Act) : (done s).andThen f = f s := rfl

@[simp] theorem mediaTake_csq  (s : State) : (mediaTake s).csq = s.csq := rfl
@[simp] theorem mediaTake_spc  (s : State) : (mediaTake s).spc = s.spc := rfl
@[simp] theorem mediaTake_svc  (s : State) : (mediaTake s).svc = s.svc := rfl
@[simp] theorem mediaTake_txe  (s : State) : (mediaTake s).txe = s.txe := rfl
@[simp] theorem mediaTake_smn  (s : State) : (mediaTake s).smn = s.smn := rfl
@[simp] theorem mediaTake_lif  (s : State) : (mediaTake s).lif = s.lif := rfl
@[simp] theorem mediaTake_pins  (s : State) : (mediaTake s).pins = s.pins := rfl
@[simp] theorem mediaTake_pending  (s : State) : (mediaTake s).pending = s.pending := rfl
@[simp] theorem mediaRelease_csq  (s : State) : (mediaRelease s).csq = s.csq := rfl
@[simp] theorem mediaRelease_spc  (s : State) : (mediaRelease s).spc = s.spc := rfl
@[simp] theorem mediaRelease_svc  (s : State) : (mediaRelease s).svc = s.svc := rfl
@[simp] theorem mediaRelease_txe  (s : State) : (mediaRelease s).txe = s.txe := rfl
@[simp] theorem mediaRelease_smn  (s : State) : (mediaRelease s).smn = s.smn := rfl
@[simp] theorem mediaRelease_lif  (s : State) : (mediaRelease s).lif = s.lif := rfl
@[simp] theorem mediaRelease_pins  (s : State) : (mediaRelease s).pins = s.pins := rfl
@[simp] theorem mediaRelease_pending  (s : State) : (mediaRelease s).pending = s.pending := rfl
@[simp] theorem linkTake_csq  (s : State) : (linkTake s).csq = s.csq := rfl
@[simp] theorem linkTake_spc  (s : State) : (linkTake s).spc = s.spc := rfl
@[simp] theorem linkTake_svc  (s : State) : (linkTake s).svc = s.svc := rfl
@[simp] theorem linkTake_txe  (s : State) : (linkTake s).txe = s.txe := rfl
@[simp] theorem linkTake_smn  (s : State) : (linkTake s).smn = s.smn := rfl
@[simp] theorem linkTake_lif  (s : State) : (linkTake s).lif = s.lif := rfl
@[simp] theorem linkTake_pins  (s : State) : (linkTake s).pins = s.pins := rfl
@[simp] theorem linkTake_pending  (s : State) : (linkTake s).pending = s.pending := rfl
@[simp] theorem linkRelease_csq  (s : State) : (linkRelease s).csq = s.csq := rfl
@[simp] theorem linkRelease_spc  (s : State) : (linkRelease s).spc = s.spc := rfl
@[simp] theorem linkRelease_svc  (s : State) : (linkRelease s).svc = s.svc := rfl
@[simp] theorem linkRelease_txe  (s : State) : (linkRelease s).txe = s.txe := rfl
@[simp] theorem linkRelease_smn  (s : State) : (linkRelease s).smn = s.smn := rfl
@[simp] theorem linkRelease_lif  (s : State) : (linkRelease s).lif = s.lif := rfl
@[simp] theorem linkRelease_pins  (s : State) : (linkRelease s).pins = s.pins := rfl
@[simp] theorem linkRelease_pending  (s : State) : (linkRelease s).pending = s.pending := rfl
@[simp] theorem releaseAll_csq  (s : State) : (releaseAll s).csq = s.csq := rfl
@[simp] theorem releaseAll_spc  (s : State) : (releaseAll s).spc = s.spc := rfl
@[simp] theorem releaseAll_svc  (s : State) : (releaseAll s).svc = s.svc := rfl
@[simp] theorem releaseAll_txe  (s : State) : (releaseAll s).txe = s.txe := rfl
@[simp] theorem releaseAll_smn  (s : State) : (releaseAll s).smn = s.smn := rfl
@[simp] theorem releaseAll_lif  (s : State) : (releaseAll s).lif = s.lif := rfl
@[simp] theorem releaseAll_pins  (s : State) : (releaseAll s).pins = s.pins := rfl
@[simp] theorem releaseAll_pending  (s : State) : (releaseAll s).pending = s.pending := rfl
@[simp] theorem setStage_csq (st : Stage) (s : State) : (setStage st s).csq = s.csq := rfl
@[simp] theorem setStage_spc (st : Stage) (s : State) : (setStage st s).spc = s.spc := rfl
@[simp] theorem setStage_svc (st : Stage) (s : State) : (setStage st s).svc = s.svc := rfl
@[simp] theorem setStage_txe (st : Stage) (s : State) : (setStage st s).txe = s.txe := rfl
@[simp] theorem setStage_sgc (st : Stage) (s : State) : (setStage st s).sgc = s.sgc := rfl
@[simp] theorem setStage_smn (st : Stage) (s : State) : (setStage st s).smn = s.smn := rfl
@[simp] theorem setStage_pins (st : Stage) (s : State) : (setStage st s).pins = s.pins := rfl
@[simp] theorem setStage_pending (st : Stage) (s : State) : (setStage st s).pending = s.pending := rfl
@[simp] theorem setBlocks_csq (n : Nat) (s : State) : (setBlocks n s).csq = s.csq := rfl
@[simp] theorem setBlocks_spc (n : Nat) (s : State) : (setBlocks n s).spc = s.spc := rfl
@[simp] theorem setBlocks_svc (n : Nat) (s : State) : (setBlocks n s).svc = s.svc := rfl
@[simp] theorem setBlocks_txe (n : Nat) (s : State) : (setBlocks n s).txe = s.txe := rfl
@[simp] theorem setBlocks_sgc (n : Nat) (s : State) : (setBlocks n s).sgc = s.sgc := rfl
@[simp] theorem setBlocks_smn (n : Nat) (s : State) : (setBlocks n s).smn = s.smn := rfl
@[simp] theorem setBlocks_pins (n : Nat) (s : State) : (setBlocks n s).pins = s.pins := rfl
@[simp] theorem setBlocks_pending (n : Nat) (s : State) : (setBlocks n s).pending = s.pending := rfl
@[simp] theorem enter_spc (l : Lifecycle) (s : State) : (enter l s).spc = s.spc := rfl
@[simp] theorem enter_svc (l : Lifecycle) (s : State) : (enter l s).svc = s.svc := rfl
@[simp] theorem enter_txe (l : Lifecycle) (s : State) : (enter l s).txe = s.txe := rfl
@[simp] theorem enter_smn (l : Lifecycle) (s : State) : (enter l s).smn = s.smn := rfl
@[simp] theorem enter_lif (l : Lifecycle) (s : State) : (enter l s).lif = s.lif := rfl
@[simp] theorem enter_pins (l : Lifecycle) (s : State) : (enter l s).pins = s.pins := rfl
@[simp] theorem enter_pending (l : Lifecycle) (s : State) : (enter l s).pending = s.pending := rfl
@[simp] theorem enter_lifecycle (l : Lifecycle) (s : State) : (enter l s).csq.lifecycle = l := rfl
@[simp] theorem enter_lock (l : Lifecycle) (s : State) : (enter l s).csq.lockEngaged = s.csq.lockEngaged := rfl
@[simp] theorem enter_segments (l : Lifecycle) (s : State) : (enter l s).sgc.segments = s.sgc.segments := rfl
@[simp] theorem enter_buffer (l : Lifecycle) (s : State) : (enter l s).sgc.buffer = s.sgc.buffer := rfl

end Sys2Proof.Machine
end

