-- ==== Sys2Proof/Laws/Memory.lean ====
section
/-! SUPPORT. The buffer memory: every operation keeps the canonical form, a read after a write gives the value written, and a write leaves every other
byte alone. -/

namespace Sys2Proof.Machine

/-- Every cell's address is above a bound. -/
def allAbove (k : Nat) (m : List Host.Cell) : Prop := ∀ c ∈ m, k < c.1

/-- The canonical form, cell by cell. -/
theorem memoryWf_cons (a : Nat) (b : Byte) (t : List Host.Cell) :
    memoryWf ((a, b) :: t) = true ↔ b ≠ blankByte ∧ a < bufferSize ∧ allAbove a t ∧ memoryWf t = true := by
  induction t generalizing a b with
  | nil => by_cases hb : b = blankByte <;> simp [memoryWf, allAbove, hb]
  | cons h t ih =>
    obtain ⟨c, d⟩ := h
    have e : memoryWf ((a, b) :: (c, d) :: t) = true ↔
        b ≠ blankByte ∧ a < bufferSize ∧ a < c ∧ memoryWf ((c, d) :: t) = true := by
      simp [memoryWf, and_assoc]
    rw [e, ih]
    constructor
    · rintro ⟨h1, h2, h3, h4, h5, h6, h7⟩
      refine ⟨h1, h2, ?_, h4, h5, h6, h7⟩
      intro x hx
      rcases List.mem_cons.mp hx with rfl | hx
      · exact h3
      · exact Nat.lt_trans h3 (h6 x hx)
    · rintro ⟨h1, h2, h3, h4, h5, h6, h7⟩
      exact ⟨h1, h2, h3 (c, d) (by simp), h4, h5, h6, h7⟩

/-- A store keeps every address above a bound below the one stored to. -/
theorem storeByte_above (j k : Nat) (v : Byte) (m : List Host.Cell) (h : allAbove j m) (hk : j < k) : allAbove j (storeByte m k v) := by
  induction m with
  | nil =>
    unfold storeByte
    split
    · exact h
    · intro x hx; simp at hx; subst hx; exact hk
  | cons c t ih =>
    obtain ⟨a, b⟩ := c
    have ha : j < a := h (a, b) (by simp)
    have ht : allAbove j t := fun x hx => h x (by simp [hx])
    unfold storeByte
    split
    · split
      · exact h
      · intro x hx
        rcases List.mem_cons.mp hx with rfl | hx
        · exact hk
        · exact h x hx
    · split
      · split
        · exact ht
        · intro x hx
          rcases List.mem_cons.mp hx with rfl | hx
          · exact hk
          · exact ht x hx
      · intro x hx
        rcases List.mem_cons.mp hx with rfl | hx
        · exact ha
        · exact ih ht x hx

/-- A store to an address of the buffer keeps the canonical form. -/
theorem storeByte_wf (m : List Host.Cell) (k : Nat) (v : Byte) (h : memoryWf m = true) (hk : k < bufferSize) :
    memoryWf (storeByte m k v) = true := by
  induction m with
  | nil =>
    unfold storeByte
    split
    · exact h
    · exact (memoryWf_cons k v []).mpr ⟨by assumption, hk, by intro x hx; simp at hx, rfl⟩
  | cons c t ih =>
    obtain ⟨a, b⟩ := c
    obtain ⟨h1, h2, h3, h4⟩ := (memoryWf_cons a b t).mp h
    unfold storeByte
    split
    · rename_i hlt
      split
      · exact h
      · refine (memoryWf_cons k v _).mpr ⟨by assumption, hk, ?_, h⟩
        intro x hx
        rcases List.mem_cons.mp hx with rfl | hx
        · exact hlt
        · exact Nat.lt_trans hlt (h3 x hx)
    · split
      · rename_i hnlt heq
        subst heq
        split
        · exact h4
        · exact (memoryWf_cons k v t).mpr ⟨by assumption, hk, h3, h4⟩
      · rename_i hnlt hne
        exact (memoryWf_cons a b _).mpr ⟨h1, h2, storeByte_above a k v t h3 (by omega), ih h4⟩

/-- Writing a byte keeps the canonical form. -/
theorem writeByte_wf (m : List Host.Cell) (k : Nat) (v : Byte) (h : memoryWf m = true) : memoryWf (writeByte m k v) = true := by
  unfold writeByte
  split
  · exact storeByte_wf m k v h (by assumption)
  · exact h

/-- Writing a run of bytes keeps the canonical form. -/
theorem writeBytes_wf (l : List Byte) (m : List Host.Cell) (k : Nat) (h : memoryWf m = true) : memoryWf (writeBytes m k l) = true := by
  induction l generalizing m k with
  | nil => exact h
  | cons b t ih => exact ih _ _ (writeByte_wf m k b h)

/-- A byte below every listed address reads blank. -/
theorem readByte_below (m : List Host.Cell) (j k : Nat) (h : allAbove j m) (hk : k ≤ j) : readByte m k = blankByte := by
  cases m with
  | nil => rfl
  | cons c t =>
    obtain ⟨a, b⟩ := c
    have ha : j < a := h (a, b) (by simp)
    unfold readByte
    rw [if_pos (by omega)]

/-- What a byte reads after a store. -/
theorem readByte_storeByte (m : List Host.Cell) (k j : Nat) (v : Byte) (h : memoryWf m = true) :
    readByte (storeByte m k v) j = if j = k then v else readByte m j := by
  induction m with
  | nil =>
    by_cases hv : v = blankByte <;> by_cases hj : j = k <;> simp [storeByte, readByte, hv, hj]
  | cons c t ih =>
    obtain ⟨a, b⟩ := c
    obtain ⟨h1, h2, h3, h4⟩ := (memoryWf_cons a b t).mp h
    have hb := readByte_below t a
    unfold storeByte
    by_cases hka : k < a
    · rw [if_pos hka]
      by_cases hv : v = blankByte
      · rw [if_pos hv]
        by_cases hj : j = k
        · subst hj; simp [readByte, hka, hv]
        · rw [if_neg hj]
      · rw [if_neg hv]
        by_cases hj : j = k
        · subst hj; simp [readByte]
        · rw [if_neg hj]
          by_cases hjk : j < k
          · simp [readByte, hjk, show j < a by omega]
          · rw [readByte, if_neg hjk, if_neg hj]
    · rw [if_neg hka]
      by_cases hkeq : k = a
      · rw [if_pos hkeq]
        subst hkeq
        by_cases hv : v = blankByte
        · rw [if_pos hv]
          by_cases hj : j = k
          · subst hj; rw [if_pos rfl, hb j h3 (Nat.le_refl j), hv]
          · rw [if_neg hj]
            by_cases hjk : j < k
            · rw [hb j h3 (by omega)]; simp [readByte, hjk]
            · rw [readByte, if_neg hjk, if_neg hj]
        · rw [if_neg hv]
          by_cases hj : j = k
          · subst hj; simp [readByte]
          · rw [if_neg hj]
            by_cases hjk : j < k
            · simp [readByte, hjk]
            · rw [readByte, if_neg hjk, if_neg hj, readByte, if_neg hjk, if_neg hj]
      · rw [if_neg hkeq]
        by_cases hja : j < a
        · rw [readByte, if_pos hja, if_neg (by omega), readByte, if_pos hja]
        · by_cases hjeq : j = a
          · rw [readByte, if_neg hja, if_pos hjeq, if_neg (by omega), readByte, if_neg hja, if_pos hjeq]
          · rw [readByte, if_neg hja, if_neg hjeq, ih h4, readByte, if_neg hja, if_neg hjeq]

/-- What a byte reads after a write: the value at the address written, when the buffer has it; every other byte is left alone. -/
theorem readByte_writeByte (m : List Host.Cell) (k j : Nat) (v : Byte) (h : memoryWf m = true) :
    readByte (writeByte m k v) j = if j = k ∧ k < bufferSize then v else readByte m j := by
  unfold writeByte
  by_cases hk : k < bufferSize
  · simp [hk, readByte_storeByte m k j v h]
  · simp [hk]

/-- A run of bytes written leaves every byte outside it alone. -/
theorem readByte_writeBytes_outside (l : List Byte) (m : List Host.Cell) (k j : Nat) (h : memoryWf m = true)
    (hj : j < k ∨ k + l.length ≤ j) : readByte (writeBytes m k l) j = readByte m j := by
  induction l generalizing m k with
  | nil => rfl
  | cons b t ih =>
    simp only [List.length_cons] at hj
    rw [writeBytes, ih _ _ (writeByte_wf m k b h) (by omega), readByte_writeByte m k j b h, if_neg (by omega)]

/-- A run of bytes written within the buffer reads back. -/
theorem readBytes_writeBytes (l : List Byte) (m : List Host.Cell) (k : Nat) (h : memoryWf m = true) (hk : k + l.length ≤ bufferSize) :
    readBytes (writeBytes m k l) k l.length = l := by
  induction l generalizing m k with
  | nil => rfl
  | cons b t ih =>
    simp only [List.length_cons] at hk
    have e : readByte (writeBytes (writeByte m k b) (k + 1) t) k = b := by
      rw [readByte_writeBytes_outside t _ (k + 1) k (writeByte_wf m k b h) (by omega), readByte_writeByte m k k b h,
        if_pos ⟨rfl, by omega⟩]
    have f := ih (writeByte m k b) (k + 1) (writeByte_wf m k b h) (by omega)
    simp only [writeBytes, List.length_cons, readBytes, e, f]

/-- Storing a block keeps the canonical form of the buffer. -/
theorem storeBlock_wf (i n : Nat) (data : List Byte) (s : State) (h : memoryWf s.sgc.buffer = true) :
    memoryWf (storeBlock i n data s).sgc.buffer = true := writeBytes_wf _ _ _ h

/-- The machine after reset has the canonical form. -/
theorem reset_buffer_wf : memoryWf State.reset.sgc.buffer = true := rfl

end Sys2Proof.Machine
end

