-- ==== Sys2Proof/Laws/PerInstr.lean ====
section
/-! SUPPORT. A family of statements with one lemma per command: the tag of a well-formed command is one that the header checks pass (R184). -/

namespace Sys2Proof.Laws

/-- The tag an ORDER or DATA_OUT frame's header carries. -/
def tagOf : Instr → Option Nat
  | .powerOnReset _ _ _ => none
  | .linkResetLine _ => none
  | .presenceChange _ => none
  | .seatingDebounceExpiry _ => none
  | .ejectButtonPress => none
  | .ejectPulseEnd => none
  | .ejectCheckExpiry => none
  | .standbyTimerExpiry => none
  | .graceTimerExpiry => none
  | .spinUpTimerExpiry => none
  | .indexPulse => none
  | .commutationPulse => none
  | .timeBaseOverflow => none
  | .brakeStepExpiry => none
  | .checkWaitExpiry => none
  | .servoSample _ => none
  | .loadLimitReached => none
  | .seekTimeout => none
  | .lostCondition => none
  | .retractTimerExpiry => none
  | .sectorMark _ => none
  | .readFieldEnd _ _ => none
  | .writeFieldEnd => none
  | .parityError _ _ => none
  | .holdWaitExpiry => none
  | .flushDelayExpiry => none
  | .monitorReading _ => none
  | .pollFrame => none
  | .hostHandshake _ => none
  | .dataOutFrame t _ _ => some t
  | .unknownOrderKind => none
  | .start t => some t
  | .stop t => some t
  | .eject t _ => some t
  | .ejectDiscard t => some t
  | .removalPrevent t _ => some t
  | .removalAllow t => some t
  | .seek t _ _ => some t
  | .read t _ _ => some t
  | .write t _ _ => some t
  | .flush t => some t
  | .reassign t _ => some t
  | .commitLabel t _ => some t
  | .calibrate t => some t
  | .loadTableProfile t _ _ => some t
  | .loadTableBias t _ => some t
  | .loadTableZone t _ => some t
  | .loadTableDefect t _ => some t
  | .loadTableLabel t _ => some t
  | .loadTableMonitor t _ => some t
  | .readTableProfile t _ => some t
  | .readTableBias t => some t
  | .readTableZone t => some t
  | .readTableDefect t => some t
  | .readTableLabel t => some t
  | .readTableMonitor t => some t
  | .set t _ => some t
  | .status t _ => some t
  | .abort t _ => some t
  | .abortAll t => some t
  | .reset t => some t
  | .frameDiscardedBadCrc _ => none
  | .ejectButtonRelease => none

/-- The first of two checks. -/
theorem firstCheck {a b : Bool} (h : (a && b) = true) : a = true := by cases a <;> simp_all

/-- A tag that the header checks pass. -/
theorem tag_le {t u : Nat} (h : tagOk t = true) (e : some t = some u) : u ≤ 15 := by
  cases e; simpa [tagOk] using h

namespace Tagged

/-- A well-formed command that carries a tag carries one from 0 to 15. -/
def Statement (i : Instr) : Prop := i.wf = true → ∀ t, tagOf i = some t → t ≤ 15

theorem powerOnReset (present tab : Bool) (straps : Nat) : Statement (.powerOnReset present tab straps) := fun _ _ e => nomatch e
theorem linkResetLine (cut : PartialFrame) : Statement (.linkResetLine cut) := fun _ _ e => nomatch e
theorem presenceChange (present : Bool) : Statement (.presenceChange present) := fun _ _ e => nomatch e
theorem seatingDebounceExpiry (tab : Bool) : Statement (.seatingDebounceExpiry tab) := fun _ _ e => nomatch e
theorem ejectButtonPress : Statement (.ejectButtonPress) := fun _ _ e => nomatch e
theorem ejectPulseEnd : Statement (.ejectPulseEnd) := fun _ _ e => nomatch e
theorem ejectCheckExpiry : Statement (.ejectCheckExpiry) := fun _ _ e => nomatch e
theorem standbyTimerExpiry : Statement (.standbyTimerExpiry) := fun _ _ e => nomatch e
theorem graceTimerExpiry : Statement (.graceTimerExpiry) := fun _ _ e => nomatch e
theorem spinUpTimerExpiry : Statement (.spinUpTimerExpiry) := fun _ _ e => nomatch e
theorem indexPulse : Statement (.indexPulse) := fun _ _ e => nomatch e
theorem commutationPulse : Statement (.commutationPulse) := fun _ _ e => nomatch e
theorem timeBaseOverflow : Statement (.timeBaseOverflow) := fun _ _ e => nomatch e
theorem brakeStepExpiry : Statement (.brakeStepExpiry) := fun _ _ e => nomatch e
theorem checkWaitExpiry : Statement (.checkWaitExpiry) := fun _ _ e => nomatch e
theorem servoSample (r : ServoRecord) : Statement (.servoSample r) := fun _ _ e => nomatch e
theorem loadLimitReached : Statement (.loadLimitReached) := fun _ _ e => nomatch e
theorem seekTimeout : Statement (.seekTimeout) := fun _ _ e => nomatch e
theorem lostCondition : Statement (.lostCondition) := fun _ _ e => nomatch e
theorem retractTimerExpiry : Statement (.retractTimerExpiry) := fun _ _ e => nomatch e
theorem sectorMark (h : SectorHeader) : Statement (.sectorMark h) := fun _ _ e => nomatch e
theorem readFieldEnd (data : List Byte) (good : Bool) : Statement (.readFieldEnd data good) := fun _ _ e => nomatch e
theorem writeFieldEnd : Statement (.writeFieldEnd) := fun _ _ e => nomatch e
theorem parityError (side : PortSide) (at_ : Nat) : Statement (.parityError side at_) := fun _ _ e => nomatch e
theorem holdWaitExpiry : Statement (.holdWaitExpiry) := fun _ _ e => nomatch e
theorem flushDelayExpiry : Statement (.flushDelayExpiry) := fun _ _ e => nomatch e
theorem monitorReading (reading : Nat) : Statement (.monitorReading reading) := fun _ _ e => nomatch e
theorem pollFrame : Statement (.pollFrame) := fun _ _ e => nomatch e
theorem hostHandshake (accept : Bool) : Statement (.hostHandshake accept) := fun _ _ e => nomatch e
theorem dataOutFrame (tag index : Nat) (payload : List Byte) : Statement (.dataOutFrame tag index payload) := fun h _ e => tag_le (firstCheck (firstCheck h)) e
theorem unknownOrderKind : Statement (.unknownOrderKind) := fun _ _ e => nomatch e
theorem start (tag : Nat) : Statement (.start tag) := fun h _ e => tag_le h e
theorem stop (tag : Nat) : Statement (.stop tag) := fun h _ e => tag_le h e
theorem eject (tag option : Nat) : Statement (.eject tag option) := fun h _ e => tag_le (firstCheck (firstCheck h)) e
theorem ejectDiscard (tag : Nat) : Statement (.ejectDiscard tag) := fun h _ e => tag_le h e
theorem removalPrevent (tag option : Nat) : Statement (.removalPrevent tag option) := fun h _ e => tag_le (firstCheck (firstCheck h)) e
theorem removalAllow (tag : Nat) : Statement (.removalAllow tag) := fun h _ e => tag_le h e
theorem seek (tag cylinder head : Nat) : Statement (.seek tag cylinder head) := fun h _ e => tag_le (firstCheck (firstCheck h)) e
theorem read (tag first count : Nat) : Statement (.read tag first count) := fun h _ e => tag_le (firstCheck (firstCheck h)) e
theorem write (tag first count : Nat) : Statement (.write tag first count) := fun h _ e => tag_le (firstCheck (firstCheck h)) e
theorem flush (tag : Nat) : Statement (.flush tag) := fun h _ e => tag_le h e
theorem reassign (tag block : Nat) : Statement (.reassign tag block) := fun h _ e => tag_le (firstCheck h) e
theorem commitLabel (tag option : Nat) : Statement (.commitLabel tag option) := fun h _ e => tag_le (firstCheck h) e
theorem calibrate (tag : Nat) : Statement (.calibrate tag) := fun h _ e => tag_le h e
theorem loadTableProfile (tag id frames : Nat) : Statement (.loadTableProfile tag id frames) := fun h _ e => tag_le (firstCheck (firstCheck (firstCheck h))) e
theorem loadTableBias (tag frames : Nat) : Statement (.loadTableBias tag frames) := fun h _ e => tag_le (firstCheck h) e
theorem loadTableZone (tag frames : Nat) : Statement (.loadTableZone tag frames) := fun h _ e => tag_le (firstCheck h) e
theorem loadTableDefect (tag frames : Nat) : Statement (.loadTableDefect tag frames) := fun h _ e => tag_le (firstCheck h) e
theorem loadTableLabel (tag frames : Nat) : Statement (.loadTableLabel tag frames) := fun h _ e => tag_le (firstCheck h) e
theorem loadTableMonitor (tag frames : Nat) : Statement (.loadTableMonitor tag frames) := fun h _ e => tag_le (firstCheck h) e
theorem readTableProfile (tag id : Nat) : Statement (.readTableProfile tag id) := fun h _ e => tag_le (firstCheck (firstCheck h)) e
theorem readTableBias (tag : Nat) : Statement (.readTableBias tag) := fun h _ e => tag_le h e
theorem readTableZone (tag : Nat) : Statement (.readTableZone tag) := fun h _ e => tag_le h e
theorem readTableDefect (tag : Nat) : Statement (.readTableDefect tag) := fun h _ e => tag_le h e
theorem readTableLabel (tag : Nat) : Statement (.readTableLabel tag) := fun h _ e => tag_le h e
theorem readTableMonitor (tag : Nat) : Statement (.readTableMonitor tag) := fun h _ e => tag_le h e
theorem set (tag : Nat) (image : SettingsImage) : Statement (.set tag image) := fun h _ e => tag_le (firstCheck h) e
theorem status (tag : Nat) (clear : ClearSet) : Statement (.status tag clear) := fun h _ e => tag_le h e
theorem abort (tag victim : Nat) : Statement (.abort tag victim) := fun h _ e => tag_le (firstCheck h) e
theorem abortAll (tag : Nat) : Statement (.abortAll tag) := fun h _ e => tag_le h e
theorem reset (tag : Nat) : Statement (.reset tag) := fun h _ e => tag_le h e
theorem frameDiscardedBadCrc (frame : PartialFrame) : Statement (.frameDiscardedBadCrc frame) := fun _ _ e => nomatch e
theorem ejectButtonRelease : Statement (.ejectButtonRelease) := fun _ _ e => nomatch e

end Tagged

end Sys2Proof.Laws
end

