-- ==== Sys2Proof/Laws/Run.lean ====
section
/-! SUPPORT. Running an event: its messages one by one, what the outputs are made of at its end, the principle by which a property is kept by every
step, and what the operations that every event shares can do. -/

namespace Sys2Proof.Machine

/-! ### Running -/

@[simp] theorem drain_nil (n : Nat) (s : State) : drain n [] s = s := by cases n <;> rfl

@[simp] theorem drain_cons (n : Nat) (g : Signal) (t : List Signal) (s : State) :
    drain (n + 1) (g :: t) s = drain n ((handle g s).signals ++ t) (handle g s).state := rfl

/-- An event without messages ends where it stands. -/
@[simp] theorem settle_done (s : State) : settle (done s) = finish s := rfl

/-- A command's outcome is the state its event settles in. -/
theorem run_eq (a : Act) : run a = .next (settle a) := rfl

/-- Two or more messages left: the first is taken, and `messageLimit` is enough for it. -/
theorem settle_cons (a : Act) (g : Signal) (t : List Signal) (h : a.signals = g :: t) :
    settle a = finish (drain 199 ((handle g a.state).signals ++ t) (handle g a.state).state) := by
  unfold settle; rw [h]; rfl

/-! ### The end of an event -/

@[simp] theorem finish_csq (s : State) : (finish s).csq = s.csq := rfl
@[simp] theorem finish_spc (s : State) : (finish s).spc = s.spc := rfl
@[simp] theorem finish_svc (s : State) : (finish s).svc = s.svc := rfl
@[simp] theorem finish_sgc (s : State) : (finish s).sgc = s.sgc := rfl
@[simp] theorem finish_smn (s : State) : (finish s).smn = s.smn := rfl
@[simp] theorem finish_pins (s : State) : (finish s).pins = s.pins := rfl
@[simp] theorem finish_pending (s : State) : (finish s).pending = s.pending := rfl
@[simp] theorem finish_gate (s : State) : (finish s).txe.gate = (s.txe.gate && gateAllowed s) := rfl
@[simp] theorem finish_attention (s : State) : (finish s).lif.attention = attentionOf s.lif := rfl
@[simp] theorem finish_op (s : State) : (finish s).txe.op = s.txe.op := rfl
@[simp] theorem finish_job (s : State) : (finish s).txe.job = s.txe.job := rfl
@[simp] theorem finish_executing (s : State) : (finish s).lif.executing = s.lif.executing := rfl
@[simp] theorem finish_reports (s : State) : (finish s).lif.reports = s.lif.reports := rfl
@[simp] theorem finish_notices (s : State) : (finish s).lif.notices = s.lif.notices := rfl

/-! ### Keeping a property -/

/-- A property that every message keeps is kept by any run of messages. -/
theorem drain_keeps (P : State → Prop) (h : ∀ g s, P s → P (handle g s).state) :
    ∀ (n : Nat) (l : List Signal) (s : State), P s → P (drain n l s)
  | 0, _, _, hs => by unfold drain; exact hs
  | _ + 1, [], _, hs => hs
  | n + 1, g :: _, s, hs => drain_keeps P h n _ _ (h g s hs)

/-- A property that every message and the end of an event keep holds where an event settles. -/
theorem settle_keeps (P : State → Prop) (h : ∀ g s, P s → P (handle g s).state) (hf : ∀ s, P s → P (finish s)) (a : Act)
    (ha : P a.state) : P (settle a) := hf _ (drain_keeps P h _ _ _ ha)

/-- One act after another keeps a property that both keep. -/
theorem andThen_keeps (P : State → Prop) (a : Act) (f : State → Act) (ha : P a.state) (hf : ∀ s, P s → P (f s).state) :
    P (a.andThen f).state := hf _ ha

/-! ### What the shared operations can do -/

/-- Entering a lifecycle state changes the CSQ's state and timers and, of the cache, the flush-delay timer and a held departure. -/
theorem enter_cases (l : Lifecycle) (s : State) :
    ∃ c g, enter l s = { s with csq := c, sgc := g } ∧ c.lifecycle = l ∧ c.lockEngaged = s.csq.lockEngaged ∧
      g.segments = s.sgc.segments ∧ g.buffer = s.sgc.buffer ∧ g.recency = s.sgc.recency :=
  ⟨_, _, rfl, rfl, rfl, rfl, rfl, rfl⟩

/-- The end of an order changes the link record and the link side of the buffer port, and sends one message, or does nothing when no order
executes. -/
theorem endOrder_cases (o : Outcome) (d : Detail) (n : Nat) (s : State) :
    (s.lif.executing = none ∧ endOrder o d n s = done s) ∨
      ∃ e l, s.lif.executing = some e ∧ (endOrder o d n s).state = { linkRelease s with lif := l } ∧
        (endOrder o d n s).signals = [if e.remnant then .dispatch else .orderEnded] ∧ l.executing = none ∧
        l.orderQueue = s.lif.orderQueue ∧ l.notices = s.lif.notices ∧ l.settings = s.lif.settings ∧
        (l.reports = s.lif.reports ∨ ∃ r : Report, l.reports = s.lif.reports ++ [r] ∧ r.tag = e.order.tag ∧ r.outcome = o) := by
  unfold endOrder
  split
  · exact .inl ⟨by assumption, rfl⟩
  · rename_i e he
    refine .inr ⟨e, _, he, rfl, rfl, rfl, rfl, rfl, rfl, ?_⟩
    by_cases hr : e.remnant = true
    · exact .inl (by simp [hr])
    · exact .inr ⟨_, by simp [hr]; rfl, rfl, rfl⟩

/-- The end of an executing order with the detail its kind always carries. -/
theorem endPlain_of_executing (o : Outcome) (e : Executing) (s : State) (h : s.lif.executing = some e) :
    endPlain o s = endOrder o e.order.kind.detail e.blocks s := by simp [endPlain, h]

/-- The end of an executing order with the detail its owner's rule names. -/
theorem endOwned_of_executing (o : Outcome) (e : Executing) (s : State) (h : s.lif.executing = some e) :
    endOwned o s = endOrder o e.order.kind.ownDetail e.blocks s := by simp [endOwned, h]

/-- A good order frame is refused, turned away, or joins the back of the queue (R173). -/
theorem acceptOrder_cases (tag : Nat) (k : OrderKind) (s : State) :
    acceptOrder tag k s = done (answer handRefused s) ∨ acceptOrder tag k s = done (answer handBusy s) ∨
      (s.lif.orderQueue.length < 4 ∧ placesHeld s < 8 ∧ tag ≤ 15 ∧ tagInUse tag s = false ∧
        (acceptOrder tag k s).state = (requestYield (joinQueue { tag := tag, kind := k } s)).state ∧
        (acceptOrder tag k s).signals = .dispatch :: (requestYield (joinQueue { tag := tag, kind := k } s)).signals) := by
  unfold acceptOrder
  split
  · exact .inl rfl
  · rename_i h1
    split
    · exact .inr (.inl rfl)
    · rename_i h2
      simp only [not_or, not_lt, not_le, Bool.not_eq_true] at h1 h2
      exact .inr (.inr ⟨h2.1, h2.2, h1.1, h1.2, rfl, rfl⟩)

/-- The brake request is taken in STILL, DRIVING and COASTING, and changes the SPC alone (R44). -/
theorem spindleBrake_cases (s : State) :
    (∃ p, (spindleBrake s).state = { s with spc := p } ∧ p.state = .braking ∧ p.brakeLevel = 8 ∧ p.speedLock = false ∧ p.phase = .idle) ∨
      spindleBrake s = done s := by
  unfold spindleBrake
  split
  all_goals first | exact .inr rfl | exact .inl ⟨_, rfl, rfl, rfl, rfl, rfl⟩

/-- A target request changes the SVC alone (R75, R76). -/
theorem servoTarget_cases (r : Requester) (cylinder head : Nat) (offset : Int) (s : State) :
    ∃ v, (servoTarget r cylinder head offset s).state = { s with svc := v } ∧ v.pos = s.svc.pos ∧ v.profile = s.svc.profile ∧
      v.bias = s.svc.bias ∧ v.command = s.svc.command ∧ (v.integrator = s.svc.integrator ∨ v.integrator = 0) := by
  unfold servoTarget
  split
  all_goals first
    | exact ⟨s.svc, rfl, rfl, rfl, rfl, rfl, .inl rfl⟩
    | (by_cases h : isHeadSwitch cylinder head offset s.svc = true
       · exact ⟨s.svc.headSwitch r head, by simp [State.modSvc, h], rfl, rfl, rfl, rfl, .inl rfl⟩
       · exact ⟨s.svc.newSeek r cylinder head offset, by simp [State.modSvc, h], rfl, rfl, rfl, rfl, .inr rfl⟩)

/-- The RETRACT request changes the SVC alone (R71). -/
theorem servoRetract_cases (s : State) :
    ∃ v, (servoRetract s).state = { s with svc := v } ∧ v.bias = s.svc.bias ∧ v.integrator = s.svc.integrator ∧
      (v.command = s.svc.command ∨ v.command = -60) := by
  unfold servoRetract cutOffSeek
  split
  all_goals first
    | exact ⟨_, rfl, rfl, rfl, .inl rfl⟩
    | (split <;> exact ⟨_, rfl, rfl, rfl, .inr rfl⟩)

/-- Positioning a sector operation sets it, LOOKING or POSITIONING, and changes beside it the SVC alone (R127). -/
theorem positionOp_cases (o : SectorOp) (s : State) :
    ∃ v t, (positionOp o s).state = { s with svc := v, txe := t } ∧ t.job = s.txe.job ∧ t.gate = s.txe.gate ∧ v.pos = s.svc.pos ∧
      (t.op = some { o with phase := .looking } ∨ t.op = some { o with phase := .positioning }) := by
  unfold positionOp
  split
  · refine ⟨_, _, rfl, rfl, rfl, rfl, ?_⟩
    by_cases h : s.svc.mode = .follow
    · exact .inl (by simp [h])
    · exact .inr (by simp [h])
  · obtain ⟨v, h1, h2, -⟩ := servoTarget_cases .transfer o.cylinder o.head (ladderOffset o.retries)
      (setOp { o with phase := .positioning } s)
    exact ⟨v, _, h1, rfl, rfl, h2, .inr rfl⟩

/-- Dispatch does nothing while an order executes or none can be taken; else the order becomes the executing order (R177). -/
theorem dispatchAct_cases (s : State) :
    dispatchAct s = done s ∨
      ∃ o, s.lif.executing = none ∧ dispatchable s = some o ∧ dispatchAct s = beginOrder o (makeExecuting o s) := by
  unfold dispatchAct
  by_cases h : s.lif.executing.isSome = true
  · exact .inl (by simp [h])
  · have hn : s.lif.executing = none := by simpa using h
    cases hd : dispatchable s with
    | none => exact .inl (by simp [hn])
    | some o => exact .inr ⟨o, hn, rfl, by simp [hn]⟩

/-- With nothing executing or queued, an order accepted is dispatched in the same event (R173, R177). -/
theorem accepted_now (tag : Nat) (k : OrderKind) (s : State) (h : Quiet tag s)
    (hc : s.csq.lifecycle ≠ .calibrate ∨ k.needsMedium = false) :
    settle (acceptOrder tag k s) =
      finish (drain 199
        (beginOrder { tag := tag, kind := k } (makeExecuting { tag := tag, kind := k } (joinQueue { tag := tag, kind := k } s))).signals
        (beginOrder { tag := tag, kind := k } (makeExecuting { tag := tag, kind := k } (joinQueue { tag := tag, kind := k } s))).state) := by
  obtain ⟨h1, h2, h3, h4, h5, h6, -⟩ := h
  have hu : tagInUse tag s = false := by
    simp only [tagInUse, h2, h3, List.any_nil, Bool.false_or, Bool.or_false, List.any_eq_false]
    intro r hr; simpa using h5 r hr
  have hp : placesHeld s < 8 := by simp [placesHeld, h2, h3, h4]
  have hy : requestYield (joinQueue { tag := tag, kind := k } s) = done (joinQueue { tag := tag, kind := k } s) := by
    have : (joinQueue { tag := tag, kind := k } s).txe.job = none := h6
    simp [requestYield, slotYields, this]
  have ha : acceptOrder tag k s = send .dispatch (joinQueue { tag := tag, kind := k } s) := by
    unfold acceptOrder
    rw [if_neg (by simp [hu, h1]), if_neg (by simp [h3]; omega), hy]
    rfl
  have hq : dispatchable (joinQueue { tag := tag, kind := k } s) = some { tag := tag, kind := k } := by
    have e : (joinQueue { tag := tag, kind := k } s).lif.orderQueue = [{ tag := tag, kind := k }] := by
      simp [joinQueue, answer, h3]
    have l : (joinQueue { tag := tag, kind := k } s).csq = s.csq := rfl
    unfold dispatchable
    rw [e, l]
    rcases hc with hc | hc <;> simp [hc]
  have hd : dispatchAct (joinQueue { tag := tag, kind := k } s) =
      beginOrder { tag := tag, kind := k } (makeExecuting { tag := tag, kind := k } (joinQueue { tag := tag, kind := k } s)) := by
    have hn : (joinQueue { tag := tag, kind := k } s).lif.executing = none := h2
    unfold dispatchAct
    rw [hq, hn]
    rfl
  rw [ha, settle_cons _ .dispatch [] rfl]
  simp [handle, hd]

/-- Everything a sector boundary can do (R125, R126, R181): the job goes on, or its order ends ABORTED with an end pending, at a boundary, where going on
would not end it, or a background job yields. -/
theorem boundary_cases (goOn : State → Act) (s : State) :
    boundary goOn s = goOn s ∨
    (boundary goOn s = endOrderJobPlain .aborted s ∧ atBoundary s = true ∧ s.txe.endPending ≠ .no ∧ orderInSlot s = true ∧
      (goOn s).state.txe.job.isNone = false) ∨
    (boundary goOn s = endBackground s ∧ atBoundary s = true ∧ s.txe.yieldPending = true ∧ slotYields s = true) := by
  unfold boundary
  split <;> rename_i hb
  · split <;> rename_i he
    · split <;> rename_i hj
      · exact .inl rfl
      · exact .inr (.inl ⟨rfl, hb, he.1, he.2, Bool.eq_false_iff.2 hj⟩)
    · split <;> rename_i hy
      · exact .inr (.inr ⟨rfl, hb, hy.1, hy.2⟩)
      · exact .inl rfl
  · exact .inl rfl

end Sys2Proof.Machine
end

