-- ==== Sys2Proof/Tests/Slice0.lean ====
section
/-! SUPPORT. Tests: what WellFormed refuses, the frames of section 11, the spec's worked cases, and for each statement of
Certificates/Slice0/Obligations.lean with hypotheses a state and operands that meet them. Expected values are the spec's own. -/

namespace Sys2Proof.Tests

open Sys2Proof Sys2Proof.Machine

/-! ### What WellFormed refuses -/

theorem test_wf_straps : (Instr.powerOnReset true false 4).wf = false := by decide
theorem test_wf_cut_frame_tag : (Instr.linkResetLine (.dataOut 16 0 0 [])).wf = false := by decide
theorem test_wf_sample_wedge : (Instr.servoSample ⟨60, true, true, 0, 0, 0⟩).wf = false := by decide
theorem test_wf_sample_cylinder : (Instr.servoSample ⟨0, true, true, 2048, 0, 0⟩).wf = false := by decide
theorem test_wf_sample_burst : (Instr.servoSample ⟨0, true, true, 0, 256, 0⟩).wf = false := by decide
theorem test_wf_mark_cylinder : (Instr.sectorMark ⟨2048, 0, 0, true⟩).wf = false := by decide
theorem test_wf_mark_head : (Instr.sectorMark ⟨0, 2, 0, true⟩).wf = false := by decide
theorem test_wf_field_length : (Instr.readFieldEnd [0] true).wf = false := by decide
theorem test_wf_parity_byte : (Instr.parityError .link 512).wf = false := by decide
theorem test_wf_reading : (Instr.monitorReading 256).wf = false := by decide
theorem test_wf_data_out_index : (Instr.dataOutFrame 0 256 []).wf = false := by decide
theorem test_wf_discarded_length : (Instr.frameDiscardedBadCrc (.dataOut 0 0 513 [])).wf = false := by decide
theorem test_wf_discarded_payload : (Instr.frameDiscardedBadCrc (.dataOut 0 0 1 [0, 0])).wf = false := by decide
theorem test_wf_tag : (Instr.start 16).wf = false := by decide
theorem test_wf_eject_option : (Instr.eject 0 1).wf = false := by decide
theorem test_wf_removal_option : (Instr.removalPrevent 0 2).wf = false := by decide
theorem test_wf_commit_option : (Instr.commitLabel 0 256).wf = false := by decide
theorem test_wf_seek_cylinder : (Instr.seek 0 65536 0).wf = false := by decide
theorem test_wf_seek_head : (Instr.seek 0 0 256).wf = false := by decide
theorem test_wf_read_first : (Instr.read 0 4294967296 1).wf = false := by decide
theorem test_wf_write_count : (Instr.write 0 0 65536).wf = false := by decide
theorem test_wf_reassign_block : (Instr.reassign 0 4294967296).wf = false := by decide
theorem test_wf_load_profile_id : (Instr.loadTableProfile 0 2 1).wf = false := by decide
theorem test_wf_load_frames : (Instr.loadTableBias 0 256).wf = false := by decide
theorem test_wf_read_profile_id : (Instr.readTableProfile 0 6).wf = false := by decide
theorem test_wf_set_field : (Instr.set 0 ⟨256, 0, 0, 0, 0, 0, 0, 0, 0⟩).wf = false := by decide
theorem test_wf_abort_victim : (Instr.abort 0 255).wf = false := by decide

/-! ### Words and frames (section 11) -/

/-- The table gives no row any bits. -/
theorem test_no_word_spells_a_command : decodeTableWord 8 1 = none ∧ State.reset.withFetchWord 8 1 = State.reset := ⟨rfl, rfl⟩

/-- R184: over the digits 1 to 9 the CRC is 29B1h. -/
theorem test_crc_of_digits : crc16 [0x31, 0x32, 0x33, 0x34, 0x35, 0x36, 0x37, 0x38, 0x39] = 0x29B1#16 := by decide +kernel

/-- The worked encoding of section 11: READ of 144 blocks from block 24,992 to drive 1 with tag 4. -/
theorem test_read_frame_bytes :
    frameBody kindOrder 1 4 0 [0x21, 0, 0, 0x61, 0xA0, 0, 0x90] =
      [0x01, 0x01, 0x04, 0x00, 0x00, 0x07, 0x21, 0x00, 0x00, 0x61, 0xA0, 0x00, 0x90] ∧
    encodeOrder (.read 4 24992 144) = some (4, [0x21, 0, 0, 0x61, 0xA0, 0, 0x90]) ∧
    decodeGood 0x01 4 0 [0x21, 0, 0, 0x61, 0xA0, 0, 0x90] = .read 4 24992 144 := by decide

/-- Its report's payload: READ, DONE, 144 blocks, no detail, READY. -/
theorem test_read_report_bytes :
    reportBytes { tag := 4, kind := .read 24992 144, outcome := .done, blocks := 144, detail := .noDetail, lifecycle := .ready } =
      [0x21, 0x00, 0x00, 0x90, 0x00, 0, 0, 0, 0, 0x07] := by decide

/-- Order payloads by the table of section 11.2, byte by byte. -/
theorem test_order_payloads :
    decodeOrder 1 [0x12, 0x01] = .ejectDiscard 1 ∧ decodeOrder 1 [0x13, 0x02] = .removalAllow 1 ∧
    decodeOrder 2 [0x20, 0x04, 0xAF, 0x01] = .seek 2 1199 1 ∧ decodeOrder 3 [0x30, 0x05, 0x02] = .loadTableDefect 3 2 ∧
    decodeOrder 3 [0x31, 0x06] = .readTableLabel 3 ∧ decodeOrder 0 [0x41, 0xFF] = .abortAll 0 ∧
    decodeOrder 5 [0x24, 0x00, 0x00, 0x61, 0xA8] = .reassign 5 25000 ∧ decodeOrder 0 [0x10, 0x00] = .unknownOrderKind := by decide

/-- A frame to another drive is ignored, and one with a damaged CRC is discarded (R172). -/
theorem test_frames_not_taken :
    decodeFrame 2 [0x03, 0x01, 0, 0, 0, 0, 0, 0] = .ignored ∧
    decodeFrame 1 [0x03, 0x01, 0, 0, 0, 0, 0, 0] = .command (.frameDiscardedBadCrc .other) := by decide +kernel

/-! ### Worked cases -/

/-- Section 3, worked cases: offsets and positions. -/
theorem test_offsets :
    offsetOf ⟨17, true, true, 412, 150, 90⟩ = 32 ∧ positionOf ⟨17, true, true, 412, 150, 90⟩ = 105504 ∧
    offsetOf ⟨44, true, true, 420, 132, 122⟩ = 5 ∧ offsetOf ⟨5, true, true, 2, 40, 200⟩ = -85 ∧
    positionOf ⟨0, true, true, 1199, 255, 0⟩ = 307071 ∧ positionOf ⟨0, true, true, 0, 0, 255⟩ = -128 ∧
    recordGood ⟨0, true, true, 300, 20, 15⟩ = false ∧ recordGood ⟨0, true, true, 1200, 128, 128⟩ = false := by decide

/-- Section 4, arithmetic at the limits: profile speeds. -/
theorem test_profile_speeds :
    profileSpeed Config.romProfile 2016 = 268 ∧ profileSpeed Config.romProfile 427 = 69 ∧ profileSpeed Config.romProfile 1024 = 160 ∧
    profileSpeed Config.romProfile 300000 = 2556 := by decide

/-- Section 5, worked cases: corrections from band sums. -/
theorem test_band_corrections :
    roundDiv 389 64 = 6 ∧ roundDiv (-70) 64 = -1 ∧ roundDiv 31 64 = 0 ∧ roundDiv 32 64 = 1 ∧ clamp (-32) 31 (30 + roundDiv 250 64) = 31 := by
  decide

/-- Section 6, the reassignment: block 25,000 lies on cylinder 354, sector 16; spare 2 is the lowest free; it maps to cylinder 1196, sector 2. -/
theorem test_block_places :
    mapZones 1196 Config.romZones.zones 25000 = { cylinder := 354, head := 0, sector := 16 } ∧
    freeSpare 192 [⟨1200, 0⟩, ⟨30005, 1⟩, ⟨52777, 3⟩] = some 2 ∧
    mapSpare Config.romZones 2 = { cylinder := 1196, head := 0, sector := 2 } ∧
    insertDefect ⟨25000, 2⟩ [⟨1200, 0⟩, ⟨30005, 1⟩, ⟨52777, 3⟩] = [⟨1200, 0⟩, ⟨25000, 2⟩, ⟨30005, 1⟩, ⟨52777, 3⟩] := by decide

/-! ### States to test on -/

/-- In READY with the heads on cylinder 0 and a valid label. -/
def ready : State :=
  { State.reset with
    csq := { resetCsq with lifecycle := .ready, lockEngaged := true }
    spc := { resetSpc with state := .driving, driveEnable := true, phase := .track, speedLock := true, lastCheckConfirmed := false }
    svc := { resetSvc with
      mode := .follow, seekStatus := .onTrack, writePermission := true, pos := { resetPosition with present := true, latestValid := true }
      cal := { resetCalibration with due := false } }
    txe := { resetTxe with labelStatus := .valid }
    smn := { resetSmn with roundComplete := true }
    pins := { present := true, tab := false, straps := 0 } }

/-- In a state with the heads parked and the spindle still. -/
def inLife (l : Lifecycle) : State :=
  { ready with csq := { resetCsq with lifecycle := l, lockEngaged := true }, spc := resetSpc, svc := resetSvc }

/-- A servo sample on a cylinder. -/
def sample (cylinder a b : Nat) : ServoRecord := ⟨7, true, true, cylinder, a, b⟩

/-- An order with tag 3 in the slot. -/
def doing (k : OrderKind) : Executing := { order := { tag := 3, kind := k }, remnant := false, stage := .inSlot, blocks := 0 }

/-- A state that executes an order with tag 3. -/
def withOrder (k : OrderKind) (s : State) : State := s.modLif fun l => { l with executing := some (doing k) }

/-- A state with a job in the slot. -/
def withJob (j : Job) (s : State) : State := s.modTxe fun t => { t with job := some j }


/-- An operation on block 5 that looks for its sector. -/
def looking (d : Direction) : SectorOp :=
  { target := .block 5, dir := d, cylinder := 1, head := 0, sector := 5, phase := .looking, retries := 0, seekFailures := 0 }

/-- An operation on block 5 in its field. -/
def inField (d : Direction) : SectorOp := { looking d with phase := .transferring }

/-- A state with a sector operation. -/
def withOp (o : SectorOp) (s : State) : State := s.modTxe fun t => { t with op := some o }

/-- A state whose segment 0 holds the window of base 0. -/
def holding (a : Attachment) (valid dirty : List Nat) (s : State) : State :=
  modSegment 0 (fun _ => { base := 0, valid := valid, dirty := dirty, attachment := a }) s

/-- In FOLLOW on a band's calibration cylinder, while the pass gathers. -/
def gathering (band gathered falls : Nat) : State :=
  ready.modSvc fun v => { v with
    targetCylinder := 150 * band + 75, requester := .calibration, pos := { v.pos with p := 256 * (150 * band + 75), band := band }
    cal := { v.cal with stage := .gathering, band := band, gathered := gathered, falls := falls } }

/-- A LOAD_TABLE with tag 3 has taken all frames but the last. -/
def loading (id : Nat) (prev : List (List Byte)) (s : State) : State :=
  s.modLif fun l => { l with
    executing := some { doing (.loadTable id (prev.length + 1)) with stage := .gathering }, expectedIndex := prev.length, loadImage := prev }

/-- A report. -/
def aReport : Report := { tag := 2, kind := .flush, outcome := .done, blocks := 0, detail := .noDetail, lifecycle := .ready }

/-- A settings image with a standby delay. -/
def settings (delay : Nat) : SettingsImage :=
  { writeBack := 1, readAhead := 1, retryLimit := 15, flushDelay := 255, standbyDelay := delay, ejectPulse := 1, brakeStep := 1,
    spinOnInsert := 1, noticeMask := 0x0FFF#16 }

/-- A cartridge record. -/
def aRecord : CartridgeRecord :=
  { signature := signature, formatId := 2041, serial := 40117, name := spaces, sequence := 1, defectCount := 0, checksum := 0 }

/-- A label state that holds a record. -/
def labelled (t : Txe) : Txe := { t with record := some aRecord }

/-- The next state of a command. -/
def after (c : Instr) (s : State) : State :=
  match exec c s with
  | .next t => t
  | .fault _ => s
  | .refused _ => s

/-! ### Steps of the worked cases -/

/-- Section 4, a sample in mid-seek: the command −246 is clamped to −127. -/
theorem test_seek_sample :
    let s := ready.modSvc fun v => { v with
      mode := .seek, targetCylinder := 420, requester := .transfer, seekStatus := .outstanding, bias := [0, 0, 6, 0, 0, 0, 0, 0],
      pos := { v.pos with p := 104900, v := 590, band := 2 } }
    let t := after (.servoSample ⟨17, true, true, 412, 150, 90⟩) s
    t.svc.pos.p = 105504 ∧ t.svc.pos.v = 604 ∧ t.svc.latestError = 2016 ∧ t.svc.command = -127 ∧ t.svc.saturated = true ∧
      t.svc.timeoutCount = 1 := by decide

/-- Section 4, a sample while following: the command is −4 and the integrator 144. -/
theorem test_follow_sample :
    let s := ready.modSvc fun v => { v with
      targetCylinder := 420, integrator := 150, bias := [0, 0, 6, 0, 0, 0, 0, 0], pos := { v.pos with p := 107524, band := 2 } }
    let t := after (.servoSample ⟨17, true, true, 420, 132, 120⟩) s
    t.svc.integrator = 144 ∧ t.svc.command = -4 ∧ t.svc.writePermission = true ∧ t.svc.mode = .follow := by decide

/-- Section 4, a head load: the sixth record gives SEEK and the command −51. -/
theorem test_first_valid_sample :
    let s := ready.modSvc fun v => { v with mode := .loading, command := 24, requester := .load, loadCount := 5, pos := resetPosition }
    let t := after (.servoSample ⟨5, true, true, 2, 40, 200⟩) s
    t.svc.mode = .seek ∧ t.svc.command = -51 ∧ t.svc.loadCount = 6 ∧ t.svc.timeoutCount = 1 ∧ t.svc.pos.p = 427 := by decide

/-- Section 6, labelling a blank cartridge: a WRITE of block 100 is refused with LABEL_BAD. -/
theorem test_write_on_a_blank_label :
    ((after (.write 1 100 1) (ready.modTxe fun t => { t with labelStatus := .blank })).lif.reports.map fun r => (r.outcome, r.detail)) =
      [(.labelBad, .block 100)] := by decide

/-- R42: the 250th pulse of a TRACK window loses the lock. -/
theorem test_overspeed :
    let t := after .commutationPulse (ready.modSpc fun p => { p with pulseCounter := 249 })
    t.spc.speedLock = false ∧ t.spc.phase = .acquire ∧ t.csq.grace = some 2000000 := by decide

/-- R2: a cartridge in the drive at power-on reset is locked and braked. -/
theorem test_power_on_with_a_cartridge :
    let t := after (.powerOnReset true true 2) State.reset
    t.csq.lifecycle = .spinDown ∧ t.csq.lockEngaged = true ∧ t.csq.writeProtected = true ∧ t.spc.brakeLevel = 8 ∧ t.lif.driveAddress = 2 := by
  decide

/-- R3, R27: a STOP that waits for a start runs on past a link reset, without its tag; READY is left for it. -/
theorem test_stop_carried_past_a_link_reset :
    let s := after (.linkResetLine .other)
      ((ready.modCsq fun c => { c with lifecycle := .labelRead }).modLif fun l =>
        { l with executing := some { doing .stop with stage := .waitStart } })
    s.lif.executing = none ∧ s.csq.carried = some .stop ∧
      (settle (enterReady s)).csq.stopReason = .order ∧ (settle (enterReady s)).csq.lifecycle = .unload := by decide

/-- R61, R69, R87: the eighth missed sample in succession, which is also the 400th of a load target's seek, ends in LOST. -/
theorem test_eighth_missed_of_a_load :
    let s := after (.servoSample ⟨7, false, true, 0, 128, 128⟩) (ready.modSvc fun v =>
      { v with mode := .seek, seekStatus := .outstanding, requester := .load, timeoutCount := 399, pos := { v.pos with missed := 7 } })
    s.svc.mode = .lost ∧ s.svc.retractCause = .lost ∧ s.svc.seekErrors = 1 := by decide

/-- R97: a second fall at the last band leaves no sum behind. -/
theorem test_fall_discards_the_gathering :
    let s := after (.servoSample (sample 1126 128 128)) (ready.modSvc fun v =>
      { v with targetCylinder := 1125, requester := .calibration, pos := { v.pos with p := 288256 }
               cal := { v.cal with stage := .gathering, band := 7, gathered := 12, bandSum := 40, falls := 1 } })
    s.svc.cal.bandSum = 0 ∧ s.svc.cal.gathered = 0 ∧ s.svc.cal.stage = .idle := by decide

/-- R118, R125: the third label sector makes the label write, with a yield pending. -/
theorem test_label_write_made_under_a_yield :
    let s := after .writeFieldEnd ((withJob { flushJob .background with work := .label [0] true }
      (withOp { inField .write with target := .label 0 } ready)).modTxe fun t => { t with labelModified := true, yieldPending := true })
    s.txe.labelModified = false ∧ s.txe.record.isSome = true ∧ s.txe.job = none := by decide

/-- R158: a clean block to read again comes before the operation that waited for its sector. -/
theorem test_read_again_comes_first :
    let s := after (.parityError .link 0) ((withOrder (.read 4 9) (withJob (orderJob (.read 1 true [] none)) (withOp (looking .read)
      (holding .order [4] [] ready)))).modLif fun l => { l with exchange := .block 0 })
    (s.txe.op.map fun o => o.target) = some (.block 4) ∧ (s.txe.job.map fun j => j.suspended.isSome) = some true := by decide

/-- R110, R16: a LOAD_TABLE DEFECT that waited through a reload into FLUSH ends NOT_READY, and the standby departure stands. -/
theorem test_defect_load_resumed_in_flush :
    let s := settle (resumeWaiting ((ready.modCsq fun c => { c with lifecycle := .flush, causes := { noCauses with standby := true } }).modLif fun l =>
      { l with executing := some { doing (.loadTable 5 1) with stage := .waitStart } }))
    (s.lif.reports.map fun r => r.outcome) = [.notReady] ∧ s.csq.lifecycle = .flush ∧ s.csq.causes.standby = true := by decide

/-- R149, R154: a WRITE over the only dirty block ends flush wanted at the frame's first byte. -/
theorem test_write_over_the_only_dirty_block :
    let s := placeBlock 0 5 [1, 2] ((withOrder (.write 5 2) (withJob (orderJob (.write false [])) (holding .order [5] [5] ready))).modSgc fun g =>
      { g with flushWanted := true })
    s.state.sgc.flushWanted = false ∧ (segmentAt s.state 0).dirty = [5] := by decide

/-- R3, R17, R28: an EJECT that waited through a failed start is attached once STOPPED is reached; a link reset in EJECT leaves nothing to carry on. -/
theorem test_link_reset_in_eject_carries_nothing :
    let s := after (.linkResetLine .other) (settle (stopConfirmedAct
      (((inLife .spinDown).modSpc fun p => { p with lastCheckConfirmed := true }).modLif fun l =>
        { l with executing := some { doing (.eject 0) with stage := .waitStart } })))
    s.csq.lifecycle = .eject ∧ s.csq.carried = none ∧ s.lif.executing = none := by decide

/-- R181: a write-through WRITE whose last sector ends with an ABORT pending has its own end, DONE. -/
theorem test_own_end_stands_over_an_abort :
    let s := after .writeFieldEnd ((withOrder (.write 5 1) (withJob { orderJob (.write true []) with flushing := some 0 } (withOp (inField .write)
      (holding .order [5] [5] ready)))).modLif fun l => { l with expectedIndex := 1 })
    let t := after .writeFieldEnd (((withOrder (.write 5 1) (withJob { orderJob (.write true []) with flushing := some 0 } (withOp (inField .write)
      (holding .order [5] [5] ready)))).modLif fun l => { l with expectedIndex := 1 }).modTxe fun x => { x with endPending := .abort })
    (t.lif.reports.map fun r => r.outcome) = [.done] ∧ s.lif.reports = t.lif.reports := by decide

/-- R171, R178: a LOAD_TABLE BIAS ended by an ABORT has detail none, and one with an entry out of range has detail BIAS. -/
theorem test_details_of_a_table_load :
    let s := loading 2 [] ready
    ((after (.abort 1 3) s).lif.reports.map fun r => (r.outcome, r.detail)) = [(.aborted, .noDetail)] ∧
      ((after (.dataOutFrame 3 0 [32, 0, 0, 0, 0, 0, 0, 0]) s).lif.reports.map fun r => (r.outcome, r.detail)) = [(.badParameter, .table 2)] := by
  decide

/-- R25, R101: a CALIBRATE that finds no cartridge has detail none. -/
theorem test_calibrate_with_no_cartridge :
    ((after (.calibrate 3) State.reset).lif.reports.map fun r => (r.outcome, r.detail)) = [(.noCartridge, .noDetail)] := by decide

/-! ### A state and operands for every statement with hypotheses -/

theorem witness_StepRunsFrontCommand : ∃ (c : Instr) (rest : List Instr) (s : State), s.pending = c :: rest :=
  ⟨.indexPulse, [], State.reset.queueFirst .indexPulse, by decide⟩
theorem witness_EmptyQueueTicks_1 : ∃ (c : Instr) (s : State), s.pending = [] ∧ dueTimer s = some c :=
  ⟨.graceTimerExpiry, ready.modCsq fun c => { c with grace := some 0 }, by decide⟩
theorem witness_EmptyQueueTicks_2 : ∃ (s : State), s.pending = [] ∧ dueTimer s = none ∧ s.spc.phase = .idle :=
  ⟨State.reset, by decide⟩
theorem witness_EmptyQueueTicks_3 : ∃ (s : State), s.pending = [] ∧ dueTimer s = none ∧ s.spc.phase ≠ .idle ∧ s.spc.timeBase ≠ 262143#18 :=
  ⟨ready.modSpc fun p => { p with timeBase := 262142#18 }, by decide⟩
theorem witness_PresenceSeatsAndUnseats_1 : ∃ (s : State), s.csq.lifecycle = .empty :=
  ⟨State.reset, by decide⟩
theorem witness_PresenceSeatsAndUnseats_2 : ∃ (s : State), s.csq.lifecycle = .seating :=
  ⟨inLife .seating, by decide⟩
theorem witness_PresenceSeatsAndUnseats_3 : ∃ (s : State), s.csq.lifecycle ≠ .empty ∧ s.csq.lifecycle ≠ .seating ∧ s.csq.lifecycle ≠ .eject ∧
    s.csq.lifecycle ≠ .jammed :=
  ⟨inLife .stopped, by decide⟩
theorem witness_CartridgeLeaves : ∃ (s : State), (s.csq.lifecycle = .eject ∨ s.csq.lifecycle = .jammed) ∧ ejectExecuting s = false :=
  ⟨inLife .jammed, by decide⟩
theorem witness_DebounceLocksTheCartridge_1 : ∃ (s : State), s.csq.debounce.isSome = true ∧ s.csq.lifecycle = .seating ∧ (s.lif.settings.spinOnInsert
    = false ∨ s.csq.faultHold = true) :=
  ⟨(inLife .seating).modCsq fun c => { c with debounce := some 0, faultHold := true }, by decide⟩
theorem witness_DebounceLocksTheCartridge_2 : ∃ (s : State), s.csq.debounce.isSome = true ∧ s.csq.lifecycle = .seating ∧ s.lif.settings.spinOnInsert =
    true ∧ s.csq.faultHold = false ∧ s.smn.roundComplete = true ∧ gateShut s = false ∧ s.spc.state = .still :=
  ⟨(inLife .seating).modCsq fun c => { c with debounce := some 0 }, by decide⟩
theorem witness_ButtonActsByState_1 : ∃ (s : State), s.csq.buttonReady = true ∧ s.csq.removalPrevented = true ∧ s.csq.lifecycle ≠ .empty :=
  ⟨(inLife .jammed).modCsq fun c => { c with removalPrevented := true }, by decide⟩
theorem witness_ButtonActsByState_2 : ∃ (s : State), s.csq.buttonReady = true ∧ (s.csq.lifecycle = .empty ∨ (s.csq.lifecycle = .seating ∧
    s.csq.removalPrevented = false)) :=
  ⟨inLife .seating, by decide⟩
theorem witness_ButtonActsByState_3 : ∃ (s : State), s.csq.buttonReady = true ∧ s.csq.removalPrevented = false ∧ (s.csq.lifecycle = .spinUp ∨
    s.csq.lifecycle = .headLoad ∨ s.csq.lifecycle = .labelRead ∨ s.csq.lifecycle = .calibrate ∨ s.csq.lifecycle = .unload ∨ s.csq.lifecycle =
    .spinDown) :=
  ⟨inLife .spinDown, by decide⟩
theorem witness_ButtonActsByState_4 : ∃ (s : State), s.csq.buttonReady = true ∧ s.csq.removalPrevented = false ∧ s.csq.lifecycle = .stopped ∧
    s.lif.executing = none ∧ dirtyCount s = 0 ∧ s.txe.labelModified = false ∧ s.svc.mode = .parked ∧ s.spc.lastCheckConfirmed = true ∧ s.pins.present
    = true :=
  ⟨inLife .stopped, by decide⟩
theorem witness_ButtonActsByState_5 : ∃ (s : State), s.csq.buttonReady = true ∧ s.csq.removalPrevented = false ∧ s.csq.lifecycle = .stopped ∧
    s.lif.executing = none ∧ (dirtyCount s ≠ 0 ∨ s.txe.labelModified = true) :=
  ⟨holding .free [5] [5] (inLife .stopped), by decide⟩
theorem witness_ButtonActsByState_6 : ∃ (j : Job) (s : State), s.csq.buttonReady = true ∧ s.csq.removalPrevented = false ∧ s.csq.lifecycle = .ready ∧
    passTag s = none ∧ s.txe.job = some j ∧ j.kind = .order :=
  ⟨orderJob .flush, withJob (orderJob .flush) ready, by decide⟩
theorem witness_ButtonActsByState_7 : ∃ (j : Job) (s : State), s.csq.buttonReady = true ∧ s.csq.removalPrevented = false ∧ s.csq.lifecycle = .ready ∧
    passTag s = none ∧ s.txe.job = some j ∧ j.kind = .flush ∧ j.role = .background :=
  ⟨flushJob .background, withJob (flushJob .background) ready, by decide⟩
theorem witness_ButtonActsByState_8 : ∃ (n : Nat) (s : State), s.csq.buttonReady = true ∧ s.csq.removalPrevented = false ∧ s.csq.lifecycle = .ready ∧
    passTag s = none ∧ s.txe.job = none ∧ CacheSound s ∧ LeastDirty n s ∧ s.svc.cal.stage = .idle :=
  ⟨5, holding .free [5, 15] [5, 15] ready, by decide⟩
theorem witness_ButtonActsByState_9 : ∃ (s : State), s.csq.buttonReady = true ∧ s.csq.removalPrevented = false ∧ s.csq.lifecycle = .ready ∧ passTag s
    = none ∧ s.txe.job = none ∧ dirtyCount s = 0 ∧ s.txe.labelModified = false ∧ OnTrack s ∧ s.lif.executing = none :=
  ⟨ready, by decide⟩
theorem witness_ButtonActsByState_10 : ∃ (s : State), s.csq.buttonReady = true ∧ s.csq.removalPrevented = false ∧ s.csq.lifecycle = .flush :=
  ⟨ready.modCsq fun c => { c with lifecycle := .flush }, by decide⟩
theorem witness_ButtonActsByState_11 : ∃ (s : State), s.csq.buttonReady = true ∧ s.csq.removalPrevented = false ∧ s.csq.lifecycle = .eject ∧
    s.csq.oneShot.isSome = true ∧ s.csq.lockEngaged = false :=
  ⟨(inLife .eject).modCsq fun c => { c with oneShot := some 0, lockEngaged := false }, by decide⟩
theorem witness_ButtonActsByState_12 : ∃ (s : State), s.csq.buttonReady = true ∧ s.csq.removalPrevented = false ∧ s.csq.lifecycle = .eject ∧
    s.csq.oneShot = none :=
  ⟨inLife .eject, by decide⟩
theorem witness_ButtonActsByState_13 : ∃ (s : State), s.csq.buttonReady = true ∧ s.csq.removalPrevented = false ∧ s.csq.lifecycle = .jammed ∧
    s.pins.present = true :=
  ⟨inLife .jammed, by decide⟩
theorem witness_ButtonActsByState_14 : ∃ (s : State), s.csq.buttonReady = false :=
  ⟨ready.modCsq fun c => { c with buttonReady := false }, by decide⟩
theorem witness_EjectCourseRuns_1 : ∃ (s : State), s.csq.lifecycle = .eject ∧ s.csq.oneShot.isSome = true :=
  ⟨(inLife .eject).modCsq fun c => { c with oneShot := some 0 }, by decide⟩
theorem witness_EjectCourseRuns_2 : ∃ (s : State), s.csq.lifecycle = .eject ∧ s.csq.ejectCheck.isSome = true ∧ s.pins.present = true ∧
    s.csq.ejectPulses < 3 ∧ s.csq.lockEngaged = false :=
  ⟨(inLife .eject).modCsq fun c => { c with ejectCheck := some 0, ejectPulses := 2, lockEngaged := false }, by decide⟩
theorem witness_EjectCourseRuns_3 : ∃ (s : State), s.csq.lifecycle = .eject ∧ s.csq.ejectCheck.isSome = true ∧ s.pins.present = true ∧ 3 ≤
    s.csq.ejectPulses ∧ ejectExecuting s = false :=
  ⟨(inLife .eject).modCsq fun c => { c with ejectCheck := some 0, ejectPulses := 3 }, by decide⟩
theorem witness_EjectCourseRuns_4 : ∃ (s : State), s.csq.lifecycle = .eject ∧ s.csq.ejectCheck.isSome = true ∧ s.pins.present = false ∧ ejectExecuting
    s = false :=
  ⟨((inLife .eject).modCsq fun c => { c with ejectCheck := some 0, ejectPulses := 3 }).modPins fun p => { p with present := false }, by decide⟩
theorem witness_StandbyLeavesReady_1 : ∃ (j : Job) (s : State), s.csq.standby.isSome = true ∧ s.csq.lifecycle = .ready ∧ passTag s = none ∧ s.txe.job
    = some j ∧ j.kind = .order :=
  ⟨orderJob .flush, withJob (orderJob .flush) (ready.modCsq fun c => { c with standby := some 0 }), by decide⟩
theorem witness_StandbyLeavesReady_2 : ∃ (s : State), s.csq.standby.isSome = true ∧ s.csq.lifecycle = .ready ∧ passTag s = none ∧ s.txe.job = none ∧
    dirtyCount s = 0 ∧ s.txe.labelModified = false ∧ OnTrack s ∧ s.lif.executing = none :=
  ⟨ready.modCsq fun c => { c with standby := some 0 }, by decide⟩
theorem witness_StandbyLeavesReady_3 : ∃ (s : State), s.csq.standby.isSome = true ∧ s.csq.lifecycle = .ready ∧ passTag s = none ∧ s.txe.job = none ∧
    dirtyCount s = 0 ∧ s.txe.labelModified = false ∧ (s.svc.mode = .lost ∨ s.svc.mode = .retract) ∧ s.lif.executing = none :=
  ⟨(ready.modCsq fun c => { c with standby := some 0 }).modSvc fun v => { v with mode := .lost, retractCause := .lost, retractTimer := some 100 }, by
    decide⟩
theorem witness_StandbyLeavesReady_4 : ∃ (j : Job) (n : Nat) (s : State), s.csq.standby.isSome = true ∧ s.csq.lifecycle = .ready ∧ passTag s = none ∧
    (s.txe.job = none ∨ (s.txe.job = some j ∧ j.kind = .readAhead ∧ atBoundary s = true ∧ s.txe.orderWaits = false)) ∧ CacheSound s ∧ LeastDirty n s ∧
    s.svc.cal.stage = .idle :=
  ⟨flushJob .background, 5, holding .free [5, 15] [5, 15] (ready.modCsq fun c => { c with standby := some 0 }), by decide⟩
theorem witness_StandbyLeavesReady_5 : ∃ (j : Job) (s : State), s.csq.standby.isSome = true ∧ s.csq.lifecycle = .ready ∧ passTag s = none ∧ s.txe.job
    = some j ∧ j.kind = .flush ∧ j.role = .background :=
  ⟨flushJob .background, withJob (flushJob .background) (ready.modCsq fun c => { c with standby := some 0 }), by decide⟩
theorem witness_StandbyLeavesReady_6 : ∃ (j : Job) (s : State), s.csq.standby.isSome = true ∧ s.csq.lifecycle = .ready ∧ passTag s = none ∧ s.txe.job
    = some j ∧ j.kind = .readAhead ∧ atBoundary s = false :=
  ⟨{ flushJob .background with kind := .readAhead, work := .readAhead 0 3 none }, withOp (inField .read) (withJob
    { flushJob .background with kind := .readAhead, work := .readAhead 0 3 none } (ready.modCsq fun c => { c with standby := some 0 })), by decide⟩
theorem witness_GraceExpiryTakesTheEmergencyPath : ∃ (e : Executing) (s : State), s.csq.grace.isSome = true ∧ (s.csq.lifecycle = .ready ∨
    s.csq.lifecycle = .flush) ∧ (s.svc.mode = .seek ∨ s.svc.mode = .settle ∨ s.svc.mode = .follow) ∧ s.svc.cal.stage = .idle ∧ s.lif.executing = some
    e ∧ e.remnant = false ∧ (e.stage = .waitPass → s.svc.cal.passOrder = none) ∧ s.lif.orderQueue = [] ∧ (∀ todo begun, jobWork s ≠ some (.label todo
    begun)) :=
  ⟨doing .flush, withOrder .flush (withJob (orderJob .flush) (ready.modCsq fun c => { c with grace := some 0 })), by decide, by decide, by decide, rfl, rfl, rfl, by decide, rfl,
    by simp [jobWork, withOrder, withJob, State.modLif, State.modTxe]⟩
theorem witness_SpinUpTimerFailsTheStart : ∃ (s : State), s.spc.spinUpTimer.isSome = true ∧ s.csq.lifecycle = .spinUp ∧ s.lif.executing = none :=
  ⟨(inLife .spinUp).modSpc fun p => { p with spinUpTimer := some 0 }, by decide⟩
theorem witness_IndexPulsesMeasure_1 : ∃ (s : State), (s.spc.phase = .idle ∨ s.spc.phase = .track) :=
  ⟨ready, by decide⟩
theorem witness_IndexPulsesMeasure_2 : ∃ (s : State), s.spc.phase = .acquire ∧ s.spc.windowOpened = false :=
  ⟨ready.modSpc fun p => { p with phase := .acquire, windowOpened := false, pulseCounter := 0, timeBase := 0#18, inBandRun := 0 }, by decide⟩
theorem witness_IndexPulsesMeasure_3 : ∃ (s : State), s.spc.phase = .acquire ∧ s.spc.windowOpened = true ∧ 2 ≤ s.spc.pulseCounter :=
  ⟨ready.modSpc fun p => { p with phase := .acquire, windowOpened := true, pulseCounter := 2, timeBase := 0#18, inBandRun := 0 }, by decide⟩
theorem witness_IndexPulsesMeasure_4 : ∃ (s : State), s.spc.phase = .acquire ∧ s.spc.windowOpened = true ∧ s.spc.pulseCounter = 1 ∧
    (s.spc.timeBase.toNat < 66001 ∨ 67333 < s.spc.timeBase.toNat) :=
  ⟨ready.modSpc fun p => { p with phase := .acquire, windowOpened := true, pulseCounter := 1, timeBase := 67334#18, inBandRun := 0 }, by decide⟩
theorem witness_IndexPulsesMeasure_5 : ∃ (s : State), s.spc.phase = .acquire ∧ s.spc.windowOpened = true ∧ s.spc.pulseCounter = 1 ∧ 66001 ≤
    s.spc.timeBase.toNat ∧ s.spc.timeBase.toNat ≤ 67333 ∧ s.spc.inBandRun = 0 :=
  ⟨ready.modSpc fun p => { p with phase := .acquire, windowOpened := true, pulseCounter := 1, timeBase := 66001#18, inBandRun := 0 }, by decide⟩
theorem witness_IndexPulsesMeasure_6 : ∃ (s : State), s.spc.phase = .acquire ∧ s.spc.windowOpened = true ∧ s.spc.pulseCounter = 1 ∧ 66001 ≤
    s.spc.timeBase.toNat ∧ s.spc.timeBase.toNat ≤ 67333 ∧ s.spc.inBandRun = 1 ∧ s.spc.spinUpPending = false :=
  ⟨ready.modSpc fun p => { p with phase := .acquire, windowOpened := true, pulseCounter := 1, timeBase := 67333#18, inBandRun := 1 }, by decide⟩
theorem witness_IndexPulsesMeasure_7 : ∃ (s : State), s.spc.phase = .acquire ∧ s.spc.windowOpened = true ∧ s.spc.pulseCounter = 1 ∧ 66001 ≤
    s.spc.timeBase.toNat ∧ s.spc.timeBase.toNat ≤ 67333 ∧ s.spc.inBandRun = 1 ∧ s.spc.spinUpPending = true ∧ s.csq.lifecycle = .spinUp ∧ s.svc.mode =
    .parked :=
  ⟨(inLife .spinUp).modSpc fun p =>
    { p with phase := .acquire, windowOpened := true, pulseCounter := 1, timeBase := 67333#18, inBandRun := 1, spinUpPending := true }, by decide⟩
theorem witness_StallWindowEnds : ∃ (s : State), s.spc.phase = .acquire ∧ s.spc.windowOpened = true ∧ s.spc.pulseCounter = 1 ∧ s.spc.timeBase =
    262143#18 :=
  ⟨ready.modSpc fun p => { p with phase := .acquire, windowOpened := true, pulseCounter := 1, timeBase := 262143#18, inBandRun := 1 }, by decide⟩
theorem witness_OverspeedLosesTheLock_1 : ∃ (s : State), s.spc.phase ≠ .track :=
  ⟨State.reset, by decide⟩
theorem witness_OverspeedLosesTheLock_2 : ∃ (s : State), s.spc.phase = .track ∧ s.spc.pulseCounter < 249 :=
  ⟨ready.modSpc fun p => { p with pulseCounter := 248 }, by decide⟩
theorem witness_OverspeedLosesTheLock_3 : ∃ (s : State), s.spc.phase = .track ∧ 249 ≤ s.spc.pulseCounter :=
  ⟨ready.modSpc fun p => { p with pulseCounter := 249 }, by decide⟩
theorem witness_OverspeedLosesTheLock_4 : ∃ (s : State), s.spc.phase = .track ∧ 249 ≤ s.spc.pulseCounter ∧ (s.csq.lifecycle = .ready ∨ s.csq.lifecycle
    = .flush) ∧ s.csq.grace = none ∧ (∀ u, s.txe.op = some u → u.phase ≠ .transferring) :=
  ⟨withOp (looking .write) (ready.modSpc fun p => { p with pulseCounter := 249 }), by decide⟩
theorem witness_OverspeedLosesTheLock_5 : ∃ (o : SectorOp) (s : State), s.spc.phase = .track ∧ 249 ≤ s.spc.pulseCounter ∧ (s.csq.lifecycle = .ready ∨
    s.csq.lifecycle = .flush) ∧ s.csq.grace = none ∧ s.txe.op = some o ∧ CanRetry o s ∧ s.svc.mode = .follow :=
  ⟨inField .write, withOp (inField .write) (ready.modSpc fun p => { p with pulseCounter := 249 }), by decide⟩
theorem witness_OverspeedLosesTheLock_6 : ∃ (s : State), s.spc.phase = .track ∧ s.spc.pulseCounter = 249 ∧ s.spc.outOfBandRun = 0 :=
  ⟨ready.modSpc fun p => { p with pulseCounter := 249 }, by decide⟩
theorem witness_OverspeedLosesTheLock_7 : ∃ (s : State), s.spc.phase = .track ∧ 238 ≤ s.spc.pulseCounter ∧ s.spc.pulseCounter ≤ 242 :=
  ⟨ready.modSpc fun p => { p with pulseCounter := 242 }, by decide⟩
theorem witness_OverspeedLosesTheLock_8 : ∃ (s : State), s.spc.phase = .track ∧ (s.spc.pulseCounter < 238 ∨ 242 < s.spc.pulseCounter) ∧
    s.spc.outOfBandRun = 0 :=
  ⟨ready.modSpc fun p => { p with pulseCounter := 237 }, by decide⟩
theorem witness_OverspeedLosesTheLock_9 : ∃ (s : State), s.spc.phase = .track ∧ (s.spc.pulseCounter < 238 ∨ 242 < s.spc.pulseCounter) ∧ 1 ≤
    s.spc.outOfBandRun :=
  ⟨ready.modSpc fun p => { p with pulseCounter := 243, outOfBandRun := 1 }, by decide⟩
theorem witness_OverspeedLosesTheLock_10 : ∃ (s : State), s.spc.phase = .track ∧ (s.spc.pulseCounter < 238 ∨ 242 < s.spc.pulseCounter) ∧
    s.spc.outOfBandRun = 1 ∧ (s.csq.lifecycle = .ready ∨ s.csq.lifecycle = .flush) ∧ s.csq.grace = none ∧ (∀ u, s.txe.op = some u → u.phase ≠
    .transferring) :=
  ⟨ready.modSpc fun p => { p with pulseCounter := 237, outOfBandRun := 1 }, by decide⟩
theorem witness_BrakeStepsDown_1 : ∃ (s : State), s.spc.state = .braking ∧ s.spc.brakeStepTimer.isSome = true ∧ 2 ≤ s.spc.brakeLevel :=
  ⟨State.reset.modSpc fun p => { p with state := .braking, brakeStepTimer := some 0, brakeLevel := 2 }, by decide⟩
theorem witness_BrakeStepsDown_2 : ∃ (s : State), s.spc.state = .braking ∧ s.spc.brakeStepTimer.isSome = true ∧ s.spc.brakeLevel = 1 :=
  ⟨State.reset.modSpc fun p => { p with state := .braking, brakeStepTimer := some 0, brakeLevel := 1 }, by decide⟩
theorem witness_StopCheckConfirms_1 : ∃ (s : State), s.spc.state = .waiting ∧ s.spc.checkWaitTimer.isSome = true :=
  ⟨State.reset.modSpc fun p => { p with state := .waiting, checkWaitTimer := some 0 }, by decide⟩
theorem witness_StopCheckConfirms_2 : ∃ (s : State), s.spc.phase = .stopCheck ∧ s.spc.noRotationRun = 0 :=
  ⟨(inLife .spinDown).modSpc fun p => { p with state := .checking, phase := .stopCheck, noRotationRun := 0 }, by decide⟩
theorem witness_StopCheckConfirms_3 : ∃ (s : State), s.spc.phase = .stopCheck ∧ s.spc.noRotationRun = 1 ∧ s.csq.lifecycle = .spinDown ∧
    s.csq.ejectPending = false ∧ s.csq.insertedDue = false ∧ s.csq.stopReason ≠ .insert ∧ s.lif.executing = none ∧ s.csq.carried ≠ some .eject :=
  ⟨((inLife .spinDown).modSpc fun p => { p with state := .checking, phase := .stopCheck, noRotationRun := 1 }).modCsq fun c =>
    { c with stopReason := .order, carried := some .stop }, by decide⟩
theorem witness_StopCheckConfirms_4 : ∃ (s : State), s.spc.phase = .stopCheck ∧ s.spc.brakingRound < 3 :=
  ⟨(inLife .spinDown).modSpc fun p => { p with state := .checking, phase := .stopCheck, brakingRound := 2, rotationReported := false }, by decide⟩
theorem witness_StopCheckConfirms_5 : ∃ (s : State), s.spc.phase = .stopCheck ∧ 3 ≤ s.spc.brakingRound ∧ s.spc.rotationReported = true :=
  ⟨(inLife .spinDown).modSpc fun p => { p with state := .checking, phase := .stopCheck, brakingRound := 3, rotationReported := true }, by decide⟩
theorem witness_StopCheckConfirms_6 : ∃ (s : State), s.spc.phase = .stopCheck ∧ 3 ≤ s.spc.brakingRound ∧ s.spc.rotationReported = false ∧
    s.csq.lifecycle = .spinDown ∧ s.lif.executing = none :=
  ⟨(inLife .spinDown).modSpc fun p => { p with state := .checking, phase := .stopCheck, brakingRound := 3, rotationReported := false }, by decide⟩
theorem witness_StopCheckConfirms_7 : ∃ (e : Executing) (option : Nat) (s : State), s.spc.phase = .stopCheck ∧ 3 ≤ s.spc.brakingRound ∧
    s.spc.rotationReported = false ∧ s.csq.lifecycle = .spinDown ∧ s.lif.executing = some e ∧ e.remnant = false ∧ (e.order.kind = .stop ∨ e.order.kind
    = .eject option) ∧ s.lif.orderQueue = [] :=
  ⟨doing (.eject 1), 1, withOrder (.eject 1) ((inLife .spinDown).modSpc fun p =>
    { p with state := .checking, phase := .stopCheck, brakingRound := 3, rotationReported := false }), by decide⟩
theorem witness_ValidSamplesCommand_1 : ∃ (r : ServoRecord) (s : State), s.svc.pos.latestWedge ≠ some r.wedge ∧ s.txe.op = none ∧ s.svc.mode = .follow
    ∧ s.svc.cal.stage ≠ .gathering ∧ sampleValid s.svc.pos r = true ∧ (sampleError r s.svc).natAbs ≤ 24 :=
  ⟨sample 0 140 116, ready, by decide⟩
theorem witness_ValidSamplesCommand_2 : ∃ (r : ServoRecord) (s : State), s.svc.pos.latestWedge ≠ some r.wedge ∧ s.txe.op = none ∧ s.svc.mode = .follow
    ∧ s.svc.cal.stage ≠ .gathering ∧ sampleValid s.svc.pos r = true ∧ 24 < (sampleError r s.svc).natAbs ∧ (sampleError r s.svc).natAbs ≤ 256 :=
  ⟨sample 1 128 128, ready, by decide⟩
theorem witness_ValidSamplesCommand_3 : ∃ (r : ServoRecord) (s : State), s.svc.pos.latestWedge ≠ some r.wedge ∧ s.txe.op = none ∧ s.svc.mode = .follow
    ∧ s.svc.cal.stage ≠ .gathering ∧ sampleValid s.svc.pos r = true ∧ 256 < (sampleError r s.svc).natAbs :=
  ⟨sample 1 140 116, ready, by decide⟩
theorem witness_ValidSamplesCommand_4 : ∃ (r : ServoRecord) (s : State), s.svc.pos.latestWedge ≠ some r.wedge ∧ s.txe.op = none ∧ s.svc.mode = .seek ∧
    sampleValid s.svc.pos r = true ∧ SeekRuns s.svc ∧ (64 < (sampleError r s.svc).natAbs ∨ 32 < (sampleVelocity r s.svc).natAbs) :=
  ⟨sample 1 128 128, ready.modSvc fun v =>
    { v with mode := .seek, targetCylinder := 2, settleCount := 0, seekStatus := .outstanding, requester := .transfer, timeoutCount := 398 }, by
    decide⟩
theorem witness_ValidSamplesCommand_5 : ∃ (r : ServoRecord) (s : State), s.svc.pos.latestWedge ≠ some r.wedge ∧ s.txe.op = none ∧ s.svc.mode = .seek ∧
    sampleValid s.svc.pos r = true ∧ SeekRuns s.svc ∧ (sampleError r s.svc).natAbs ≤ 64 ∧ (sampleVelocity r s.svc).natAbs ≤ 32 :=
  ⟨sample 0 140 116, ready.modSvc fun v =>
    { v with mode := .seek, targetCylinder := 0, settleCount := 0, seekStatus := .outstanding, requester := .transfer, timeoutCount := 398 }, by
    decide⟩
theorem witness_ValidSamplesCommand_6 : ∃ (r : ServoRecord) (s : State), s.svc.pos.latestWedge ≠ some r.wedge ∧ s.txe.op = none ∧ s.svc.mode = .settle
    ∧ sampleValid s.svc.pos r = true ∧ SeekRuns s.svc ∧ (sampleError r s.svc).natAbs ≤ 256 ∧ s.svc.settleCount < 3 :=
  ⟨sample 1 128 128, ready.modSvc fun v =>
    { v with mode := .settle, targetCylinder := 0, settleCount := 2, seekStatus := .outstanding, requester := .transfer, timeoutCount := 398 }, by
    decide⟩
theorem witness_ValidSamplesCommand_7 : ∃ (r : ServoRecord) (o : SectorOp) (s : State), s.svc.pos.latestWedge ≠ some r.wedge ∧ s.txe.op = some o ∧
    o.phase = .positioning ∧ o.target ≠ .seekOnly ∧ s.svc.requester = .transfer ∧ s.svc.seekStatus = .outstanding ∧ s.svc.mode = .settle ∧ sampleValid
    s.svc.pos r = true ∧ (sampleError r s.svc).natAbs ≤ 16 ∧ (positionCommand r (sampleError r s.svc) (sampleVelocity r s.svc) (clamp (-8192) 8192
    (s.svc.integrator + (sampleError r s.svc))) s.svc).natAbs ≤ 127 ∧ s.svc.settleCount = 3 :=
  ⟨sample 0 132 124, { looking .write with phase := .positioning }, withOp { looking .write with phase := .positioning } (ready.modSvc fun v =>
    { v with mode := .settle, targetCylinder := 0, settleCount := 3, seekStatus := .outstanding, requester := .transfer, timeoutCount := 398 }), by
    decide⟩
theorem witness_ValidSamplesCommand_8 : ∃ (r : ServoRecord) (s : State), s.svc.pos.latestWedge ≠ some r.wedge ∧ s.txe.op = none ∧ s.svc.mode = .settle
    ∧ sampleValid s.svc.pos r = true ∧ SeekRuns s.svc ∧ 256 < (sampleError r s.svc).natAbs :=
  ⟨sample 1 128 128, ready.modSvc fun v =>
    { v with mode := .settle, targetCylinder := 3, settleCount := 3, seekStatus := .outstanding, requester := .transfer, timeoutCount := 398 }, by
    decide⟩
theorem witness_ValidSamplesCommand_9 : ∃ (r : ServoRecord) (s : State), s.svc.pos.latestWedge ≠ some r.wedge ∧ s.txe.op = none ∧ s.svc.mode =
    .loading ∧ recordGood r = true ∧ 64 < (sampleError r s.svc).natAbs :=
  ⟨sample 1 40 200, ready.modSvc fun v => { v with mode := .loading, loadCount := 199 }, by decide⟩
theorem witness_ValidSamplesCommand_10 : ∃ (r : ServoRecord) (s : State), s.svc.pos.latestWedge ≠ some r.wedge ∧ s.txe.op = none ∧ s.svc.mode =
    .loading ∧ recordGood r = true ∧ (sampleError r s.svc).natAbs ≤ 64 :=
  ⟨sample 0 40 16, ready.modSvc fun v => { v with mode := .loading }, by decide⟩
theorem witness_MissedSamplePredicts_1 : ∃ (s : State) (r : ServoRecord), s.txe.op = none ∧ (s.svc.mode = .parked ∨ s.svc.mode = .retract ∨ s.svc.mode
    = .lost ∨ s.svc.pos.latestWedge = some r.wedge) :=
  ⟨State.reset, sample 0 128 128, by decide⟩
theorem witness_MissedSamplePredicts_2 : ∃ (s : State) (r : ServoRecord), s.txe.op = none ∧ s.svc.mode = .follow ∧ s.svc.seekStatus = .onTrack ∧
    s.svc.pos.latestWedge ≠ some r.wedge ∧ sampleValid s.svc.pos r = false ∧ s.svc.pos.missed < 7 :=
  ⟨ready.modSvc fun v => { v with pos := { v.pos with missed := 6 } }, sample 0 20 19, by decide⟩
theorem witness_MissedSamplePredicts_3 : ∃ (o : SectorOp) (s : State) (r : ServoRecord), s.txe.op = some o ∧ o.dir = .read ∧ s.spc.speedLock = true ∧
    s.svc.mode = .follow ∧ s.svc.seekStatus = .onTrack ∧ s.svc.pos.latestWedge ≠ some r.wedge ∧ sampleValid s.svc.pos r = false ∧ s.svc.pos.missed < 7
    :=
  ⟨inField .read, withOp (inField .read) (ready.modSvc fun v => { v with pos := { v.pos with missed := 6 } }), sample 0 20 19, by decide⟩
theorem witness_MissedSamplePredicts_4 : ∃ (o : SectorOp) (s : State) (r : ServoRecord), s.txe.op = some o ∧ o.dir = .write ∧ CanRetry o s ∧
    s.svc.mode = .follow ∧ s.svc.seekStatus = .onTrack ∧ s.svc.pos.latestWedge ≠ some r.wedge ∧ sampleValid s.svc.pos r = false ∧ s.svc.pos.missed < 7
    :=
  ⟨inField .write, withOp (inField .write) (ready.modSvc fun v => { v with pos := { v.pos with missed := 0 } }), sample 0 20 19, by decide⟩
theorem witness_MissedSamplePredicts_5 : ∃ (s : State) (r : ServoRecord), s.txe.op = none ∧ s.svc.mode = .follow ∧ s.svc.seekStatus = .onTrack ∧
    s.svc.pos.latestWedge ≠ some r.wedge ∧ sampleValid s.svc.pos r = false ∧ s.svc.pos.missed = 7 :=
  ⟨ready.modSvc fun v => { v with pos := { v.pos with missed := 7 } }, sample 0 20 19, by decide⟩
theorem witness_MissedSamplePredicts_6 : ∃ (s : State) (r : ServoRecord), s.txe.op = none ∧ s.svc.mode = .loading ∧ s.svc.pos.latestWedge ≠ some
    r.wedge ∧ recordGood r = false ∧ s.svc.loadCount < 199 :=
  ⟨ready.modSvc fun v => { v with mode := .loading, loadCount := 198 }, sample 0 20 19, by decide⟩
theorem witness_LoadsAndSeeksTimeOut_1 : ∃ (s : State), s.svc.mode = .loading :=
  ⟨ready.modSvc fun v => { v with mode := .loading }, by decide⟩
theorem witness_LoadsAndSeeksTimeOut_2 : ∃ (s : State), s.svc.seekStatus = .outstanding ∧ (s.svc.mode = .seek ∨ s.svc.mode = .settle) ∧
    s.svc.requester = .nobody :=
  ⟨ready.modSvc fun v => { v with mode := .seek, seekStatus := .outstanding, requester := .nobody }, by decide⟩
theorem witness_LoadsAndSeeksTimeOut_3 : ∃ (s : State), s.svc.seekStatus = .outstanding ∧ (s.svc.mode = .seek ∨ s.svc.mode = .settle) ∧
    s.svc.requester = .load :=
  ⟨ready.modSvc fun v => { v with mode := .seek, seekStatus := .outstanding, requester := .load }, by decide⟩
theorem witness_LoadsAndSeeksTimeOut_4 : ∃ (o : SectorOp) (s : State), s.svc.seekStatus = .outstanding ∧ (s.svc.mode = .seek ∨ s.svc.mode = .settle) ∧
    s.svc.requester = .transfer ∧ s.txe.op = some o ∧ o.phase = .positioning ∧ o.seekFailures = 0 ∧ s.svc.targetCylinder = o.cylinder ∧
    s.svc.targetHead = o.head ∧ s.svc.retryOffset = ladderOffset o.retries :=
  ⟨{ looking .read with phase := .positioning }, withOp { looking .read with phase := .positioning } (ready.modSvc fun v =>
    { v with mode := .settle, seekStatus := .outstanding, requester := .transfer, targetCylinder := 1 }), by decide⟩
theorem witness_LoadsAndSeeksTimeOut_5 : ∃ (o : SectorOp) (e : Executing) (cylinder : Nat) (head : Nat) (s : State), s.svc.seekStatus = .outstanding ∧
    (s.svc.mode = .seek ∨ s.svc.mode = .settle) ∧ s.svc.requester = .transfer ∧ s.txe.op = some o ∧ o.phase = .positioning ∧ o.seekFailures = 1 ∧
    s.txe.job = some (orderJob .seek) ∧ s.lif.executing = some e ∧ e.remnant = false ∧ e.order.kind = .seek cylinder head ∧ NothingWaits s ∧
    s.sgc.flushWanted = false :=
  ⟨{ looking .read with target := .seekOnly, phase := .positioning, seekFailures := 1 }, doing (.seek 1 0), 1, 0, withOp
    { looking .read with target := .seekOnly, phase := .positioning, seekFailures := 1 } (withOrder (.seek 1 0) (withJob (orderJob .seek)
    (ready.modSvc fun v => { v with mode := .seek, seekStatus := .outstanding, requester := .transfer }))), by decide⟩
theorem witness_LoadsAndSeeksTimeOut_6 : ∃ (s : State), s.svc.seekStatus = .outstanding ∧ (s.svc.mode = .seek ∨ s.svc.mode = .settle) ∧
    s.svc.requester = .calibration ∧ s.svc.cal.stage = .seeking ∧ s.svc.cal.band < 7 ∧ s.svc.targetCylinder = 150 * s.svc.cal.band + 75 :=
  ⟨ready.modSvc fun v =>
    { v with mode := .settle, seekStatus := .outstanding, requester := .calibration, targetCylinder := 975, cal := { v.cal with stage := .seeking, band := 6 } },
    by decide⟩
theorem witness_LostHeadsArePutAway_1 : ∃ (s : State), (s.svc.mode = .seek ∨ s.svc.mode = .settle ∨ s.svc.mode = .follow) ∧ s.svc.seekStatus ≠
    .outstanding ∧ s.txe.op = none :=
  ⟨ready, by decide⟩
theorem witness_LostHeadsArePutAway_2 : ∃ (s : State), (s.svc.mode = .seek ∨ s.svc.mode = .settle) ∧ s.svc.seekStatus = .outstanding ∧ s.txe.op = none
    ∧ s.svc.cal.stage = .idle :=
  ⟨ready.modSvc fun v => { v with mode := .seek, seekStatus := .outstanding, requester := .transfer }, by decide⟩
theorem witness_LostHeadsArePutAway_3 : ∃ (s : State), s.svc.retractTimer.isSome = true ∧ s.svc.mode = .retract ∧ s.csq.lifecycle = .unload ∧
    s.spc.state = .driving :=
  ⟨((inLife .unload).modSvc fun v => { v with mode := .retract, retractTimer := some 0 }).modSpc fun p =>
    { p with state := .driving, phase := .track, speedLock := true }, by decide⟩
theorem witness_SectorMarksAreTaken_1 : ∃ (o : SectorOp) (n : Nat) (s : State), s.txe.op = some o ∧ o.phase = .looking ∧ o.target = .block n ∧
    s.spc.speedLock = false :=
  ⟨looking .read, 5, (withOp (looking .read) ready).modSpc fun p => { p with speedLock := false }, by decide⟩
theorem witness_SectorMarksAreTaken_2 : ∃ (h : SectorHeader) (o : SectorOp) (n : Nat) (s : State), s.txe.op = some o ∧ o.phase = .looking ∧ o.target =
    .block n ∧ s.spc.speedLock = true ∧ s.svc.mode = .follow ∧ h.checkGood = true ∧ h.cylinder = o.cylinder ∧ h.head = o.head ∧ h.sector ≠ o.sector :=
  ⟨⟨1, 0, 6, true⟩, looking .read, 5, withOp (looking .read) ready, by decide⟩
theorem witness_SectorMarksAreTaken_3 : ∃ (h : SectorHeader) (o : SectorOp) (n : Nat) (s : State), s.txe.op = some o ∧ o.phase = .looking ∧ o.target =
    .block n ∧ s.spc.speedLock = true ∧ s.svc.mode = .follow ∧ h.checkGood = false ∧ o.retries < s.lif.settings.retryLimit ∧ ladderOffset (o.retries +
    1) = ladderOffset o.retries ∧ s.txe.endPending = .no ∧ s.txe.yieldPending = false :=
  ⟨⟨1, 0, 5, false⟩, looking .read, 5, withOp (looking .read) ready, by decide⟩
theorem witness_SectorMarksAreTaken_4 : ∃ (h : SectorHeader) (o : SectorOp) (n : Nat) (i : Nat) (s : State), s.txe.op = some o ∧ o.phase = .looking ∧
    o.target = .block n ∧ s.spc.speedLock = true ∧ s.svc.mode = .follow ∧ h = ⟨o.cylinder, o.head, o.sector, true⟩ ∧ o.dir = .read ∧ findWindow
    (windowBase n) s = some i ∧ blockValid n s = false :=
  ⟨⟨1, 0, 5, true⟩, looking .read, 5, 0, withOp (looking .read) (holding .order [] [] ready), by decide⟩
theorem witness_SectorMarksAreTaken_5 : ∃ (h : SectorHeader) (o : SectorOp) (n : Nat) (s : State), s.txe.op = some o ∧ o.phase = .looking ∧ o.target =
    .block n ∧ s.spc.speedLock = true ∧ s.svc.mode = .follow ∧ h = ⟨o.cylinder, o.head, o.sector, true⟩ ∧ o.dir = .write ∧ writeHold s = true ∧
    s.txe.holdTimer = none :=
  ⟨⟨1, 0, 5, true⟩, looking .write, 5, (withOp (looking .write) ready).modSmn fun m => { m with temp := { m.temp with active := .high } }, by decide⟩
theorem witness_SectorMarksAreTaken_6 : ∃ (h : SectorHeader) (o : SectorOp) (n : Nat) (s : State), s.txe.op = some o ∧ o.phase = .looking ∧ o.target =
    .block n ∧ gateAllowed s = true ∧ h = ⟨o.cylinder, o.head, o.sector, true⟩ ∧ o.dir = .write :=
  ⟨⟨1, 0, 5, true⟩, looking .write, 5, withOp (looking .write) ready, by decide⟩
theorem witness_ReadFieldsEnd_1 : ∃ (o : SectorOp) (n : Nat) (i : Nat) (s : State), s.txe.op = some o ∧ o.phase = .transferring ∧ o.dir = .read ∧
    o.target = .block n ∧ findWindow (windowBase n) s = some i ∧ s.txe.endPending = .no ∧ s.txe.yieldPending = false ∧ o.retries <
    s.lif.settings.retryLimit ∧ ladderOffset (o.retries + 1) = ladderOffset o.retries :=
  ⟨inField .read, 5, 0, withOp (inField .read) (holding .order [] [] ready), by decide⟩
theorem witness_ReadFieldsEnd_2 : ∃ (data : List Byte) (o : SectorOp) (n : Nat) (i : Nat) (first : Nat) (count : Nat) (q : Nat) (medium : Bool) (e :
    Executing) (s : State), s.txe.op = some o ∧ o.phase = .transferring ∧ o.dir = .read ∧ o.target = .block n ∧ findWindow (windowBase n) s = some i ∧
    s.txe.endPending = .no ∧ s.txe.yieldPending = false ∧ s.lif.executing = some e ∧ e.order.kind = .read first count ∧ n = first + q ∧ s.txe.job =
    some (orderJob (.read q medium [] none)) ∧ i < s.sgc.segments.length ∧ data.length = 512 ∧ q + 1 = count :=
  ⟨List.replicate 512 1, inField .read, 5, 0, 5, 1, 0, false, doing (.read 5 1), withOrder (.read 5 1) (withJob (orderJob (.read 0 false [] none))
    (withOp (inField .read) (holding .order [] [] ready))), by decide +kernel⟩
theorem witness_ReadFieldsEnd_3 : ∃ (data : List Byte) (o : SectorOp) (n : Nat) (i : Nat) (first : Nat) (count : Nat) (q : Nat) (medium : Bool) (e :
    Executing) (s : State), s.txe.op = some o ∧ o.phase = .transferring ∧ o.dir = .read ∧ o.target = .block n ∧ findWindow (windowBase n) s = some i ∧
    s.txe.endPending = .no ∧ s.txe.yieldPending = false ∧ s.lif.executing = some e ∧ e.order.kind = .read first count ∧ n = first + q ∧ s.txe.job =
    some (orderJob (.read q medium [] none)) ∧ i < s.sgc.segments.length ∧ data.length = 512 ∧ q + 1 < count ∧ (n + 1) % 16 ≠ 0 ∧ (segmentAt s
    i).attachment = .order ∧ (n + 1) % 16 ∉ (segmentAt s i).valid ∧ s.svc.cal.stage = .idle :=
  ⟨List.replicate 512 1, inField .read, 5, 0, 4, 3, 1, true, doing (.read 4 3), withOrder (.read 4 3) (withJob (orderJob (.read 1 true [] none)) (withOp
    (inField .read) (holding .order [4] [] ready))), by decide +kernel⟩
theorem witness_WriteFieldsEnd_1 : ∃ (o : SectorOp) (n : Nat) (i : Nat) (s : State), s.txe.op = some o ∧ o.phase = .transferring ∧ o.dir = .write ∧
    o.target = .block n ∧ findWindow (windowBase n) s = some i ∧ i < s.sgc.segments.length ∧ (segmentAt s i).dirty = [n % 16] ∧ s.txe.endPending = .no
    ∧ s.txe.yieldPending = false ∧ s.txe.job = some { orderJob (.write false []) with flushing := some i } :=
  ⟨inField .write, 5, 0, withJob { orderJob (.write false []) with flushing := some 0 } (withOp (inField .write) (holding .flush [5] [5] ready)), by
    decide⟩
theorem witness_WriteFieldsEnd_2 : ∃ (o : SectorOp) (n : Nat) (i : Nat) (first : Nat) (count : Nat) (e : Executing) (s : State), s.txe.op = some o ∧
    o.phase = .transferring ∧ o.dir = .write ∧ o.target = .block n ∧ findWindow (windowBase n) s = some i ∧ i < s.sgc.segments.length ∧ (segmentAt s
    i).dirty = [n % 16] ∧ s.txe.endPending = .no ∧ s.txe.yieldPending = false ∧ s.txe.job = some { orderJob (.write true []) with flushing := some i }
    ∧ s.lif.executing = some e ∧ e.order.kind = .write first count ∧ first ≤ n ∧ n < first + s.lif.expectedIndex ∧ s.lif.expectedIndex < count :=
  ⟨inField .write, 5, 0, 5, 2, doing (.write 5 2), withOrder (.write 5 2) (withJob { orderJob (.write true []) with flushing := some 0 } (withOp
    (inField .write) (holding .order [5] [5] ready))) |>.modLif fun l => { l with expectedIndex := 1 }, by decide⟩
theorem witness_WriteFieldsEnd_3 : ∃ (o : SectorOp) (n : Nat) (i : Nat) (first : Nat) (count : Nat) (e : Executing) (s : State), s.txe.op = some o ∧
    o.phase = .transferring ∧ o.dir = .write ∧ o.target = .block n ∧ findWindow (windowBase n) s = some i ∧ i < s.sgc.segments.length ∧ (segmentAt s
    i).dirty = [n % 16] ∧ s.txe.endPending = .no ∧ s.txe.yieldPending = false ∧ s.txe.job = some { orderJob (.write true []) with flushing := some i }
    ∧ s.lif.executing = some e ∧ e.order.kind = .write first count ∧ first ≤ n ∧ n < first + s.lif.expectedIndex ∧ count ≤ s.lif.expectedIndex ∧
    e.remnant = false ∧ NothingWaits s ∧ s.sgc.flushWanted = false :=
  ⟨inField .write, 5, 0, 5, 1, doing (.write 5 1), withOrder (.write 5 1) (withJob { orderJob (.write true []) with flushing := some 0 } (withOp
    (inField .write) (holding .order [5] [5] ready))) |>.modLif fun l => { l with expectedIndex := 1 }, by decide⟩
theorem witness_WriteFieldsEnd_4 : ∃ (o : SectorOp) (k : Nat) (m : Nat) (todo : List Nat) (begun : Bool) (j : Job) (s : State), s.txe.op = some o ∧
    o.phase = .transferring ∧ o.dir = .write ∧ o.target = .label k ∧ s.txe.job = some j ∧ j.kind ≠ .labelRead ∧ j.work = .label (k :: m :: todo) begun
    ∧ j.flushing = none ∧ j.suspended = none ∧ s.svc.cal.stage = .idle ∧ s.txe.endPending = .no ∧ s.txe.yieldPending = false :=
  ⟨{ inField .write with target := .label 1 }, 1, 2, [0], true, orderJob (.label [1, 2, 0] true), withJob (orderJob (.label [1, 2, 0] true)) (withOp
    { inField .write with target := .label 1 } ready), by decide⟩
theorem witness_WriteFieldsEnd_5 : ∃ (o : SectorOp) (begun : Bool) (option : Nat) (e : Executing) (s : State), s.txe.op = some o ∧ o.phase =
    .transferring ∧ o.dir = .write ∧ o.target = .label 0 ∧ s.txe.job = some (orderJob (.label [0] begun)) ∧ s.lif.executing = some e ∧ e.remnant =
    false ∧ e.order.kind = .commitLabel option ∧ NothingWaits s ∧ s.sgc.flushWanted = false :=
  ⟨{ inField .write with target := .label 0 }, true, 1, doing (.commitLabel 1), withOrder (.commitLabel 1) (withJob (orderJob (.label [0] true)) (withOp
    { inField .write with target := .label 0 } ready)), by decide⟩
theorem witness_WriteFieldsEnd_6 : ∃ (o : SectorOp) (begun : Bool) (s : State), s.txe.op = some o ∧ o.phase = .transferring ∧ o.dir = .write ∧
    o.target = .label 0 ∧ s.txe.job = some { flushJob .departure with work := .label [0] begun } ∧ s.csq.lifecycle = .flush ∧ OnTrack s ∧
    s.lif.executing = none :=
  ⟨{ inField .write with target := .label 0 }, true, withJob { flushJob .departure with work := .label [0] true } (withOp
    { inField .write with target := .label 0 } (ready.modCsq fun c => { c with lifecycle := .flush })), by decide⟩
theorem witness_ParityLosesTheBlock_1 : ∃ (o : SectorOp) (n : Nat) (i : Nat) (s : State), findWindow (windowBase n) s = some i ∧ i <
    s.sgc.segments.length ∧ s.txe.endPending = .no ∧ s.txe.yieldPending = false ∧ s.txe.op = some o ∧ o.phase = .transferring ∧ o.dir = .write ∧
    o.target = .block n ∧ (segmentAt s i).dirty = [n % 16] ∧ s.txe.job = some { orderJob (.write false []) with flushing := some i } :=
  ⟨inField .write, 5, 0, withJob { orderJob (.write false []) with flushing := some 0 } (withOp (inField .write) (holding .flush [5] [5] ready)), by
    decide⟩
theorem witness_ParityLosesTheBlock_2 : ∃ (n : Nat) (i : Nat) (tag : Nat) (first : Nat) (count : Nat) (p : Nat) (m : Nat) (s : State), findWindow
    (windowBase n) s = some i ∧ i < s.sgc.segments.length ∧ s.txe.endPending = .no ∧ s.txe.yieldPending = false ∧ s.lif.exchange = .block p ∧ n =
    first + p ∧ s.lif.executing = some { order := { tag := tag, kind := .read first count }, remnant := false, stage := .inSlot, blocks := p } ∧
    s.txe.op = none ∧ s.svc.cal.stage = .idle ∧ (segmentAt s i).attachment = .order ∧ n % 16 ∉ (segmentAt s i).dirty ∧ s.txe.job = some (orderJob
    (.read m true [] none)) :=
  ⟨5, 0, 3, 5, 1, 0, 0, withOrder (.read 5 1) (withJob (orderJob (.read 0 true [] none)) (holding .order [4, 5] [] ready)) |>.modLif fun l =>
    { l with exchange := .block 0 }, by decide⟩
theorem witness_ParityLosesTheBlock_3 : ∃ (n : Nat) (i : Nat) (tag : Nat) (first : Nat) (count : Nat) (p : Nat) (m : Nat) (s : State), findWindow
    (windowBase n) s = some i ∧ i < s.sgc.segments.length ∧ s.txe.endPending = .no ∧ s.txe.yieldPending = false ∧ s.lif.exchange = .block p ∧ n =
    first + p ∧ s.lif.executing = some { order := { tag := tag, kind := .read first count }, remnant := false, stage := .inSlot, blocks := p } ∧ n %
    16 ∈ (segmentAt s i).dirty ∧ s.txe.job = some (orderJob (.read m true [] none)) ∧ NothingWaits s ∧ s.sgc.flushWanted = false :=
  ⟨5, 0, 3, 5, 1, 0, 0, withOrder (.read 5 1) (withJob (orderJob (.read 0 true [] none)) (holding .order [4, 5] [5] ready)) |>.modLif fun l =>
    { l with exchange := .block 0 }, by decide⟩
theorem witness_HoldWaitAndFlushDelayExpire_1 : ∃ (o : SectorOp) (n : Nat) (e : Executing) (s : State), s.txe.holdTimer.isSome = true ∧ s.txe.op =
    some o ∧ o.target = .block n ∧ s.txe.job = some (orderJob .flush) ∧ s.lif.executing = some e ∧ e.remnant = false ∧ e.order.kind = .flush ∧
    NothingWaits s ∧ s.sgc.flushWanted = false :=
  ⟨looking .write, 5, doing .flush, (withOrder .flush (withJob (orderJob .flush) (withOp (looking .write) (holding .flush [5] [5] ready)))).modTxe fun t
    => { t with holdTimer := some 0 }, by decide⟩
theorem witness_HoldWaitAndFlushDelayExpire_2 : ∃ (s : State), s.sgc.flushTimer.isSome = true ∧ s.txe.job.isSome = true :=
  ⟨(withJob (orderJob .flush) (holding .flush [5] [5] ready)).modSgc fun g => { g with flushTimer := some 0 }, by decide⟩
theorem witness_HoldWaitAndFlushDelayExpire_3 : ∃ (n : Nat) (s : State), s.sgc.flushTimer.isSome = true ∧ s.txe.job = none ∧ s.csq.lifecycle = .ready
    ∧ s.txe.orderWaits = false ∧ s.txe.departureWaits = false ∧ s.svc.cal.due = false ∧ s.svc.cal.stage = .idle ∧ CacheSound s ∧ LeastDirty n s :=
  ⟨0, (holding .free [0, 15] [0, 15] ready).modSgc fun g => { g with flushTimer := some 0 }, by decide⟩
theorem witness_HoldWaitAndFlushDelayExpire_4 : ∃ (s : State), s.sgc.flushTimer.isSome = true ∧ s.txe.job = none ∧ s.sgc.flushWanted = false ∧
    dirtyCount s = 0 :=
  ⟨ready.modSgc fun g => { g with flushTimer := some 0 }, by decide⟩
theorem witness_MonitorReadingsAct_1 : ∃ (s : State) (reading : Nat), (s.smn.slot = .v12 ∨ s.smn.slot = .v5 ∨ s.smn.slot = .ispin ∨ (s.smn.slot =
    .iact ∧ s.smn.roundComplete = true) ∨ (s.smn.slot = .temp ∧ (s.csq.lifecycle ≠ .ready ∨ drifted reading s.svc.cal.temperature = false ∨
    s.svc.cal.due = true))) ∧ (channel s s.smn.slot).limits.armed = .always ∧ (channel s s.smn.slot).limits.low ≤ reading ∧ reading ≤ (channel s
    s.smn.slot).limits.high ∧ (channel s s.smn.slot).active = .neither :=
  ⟨State.reset, State.reset.smn.v12.limits.low, by decide⟩
theorem witness_MonitorReadingsAct_2 : ∃ (s : State) (reading : Nat), (s.smn.slot = .v12 ∨ s.smn.slot = .v5 ∨ s.smn.slot = .ispin ∨ (s.smn.slot =
    .iact ∧ s.smn.roundComplete = true) ∨ (s.smn.slot = .temp ∧ (s.csq.lifecycle ≠ .ready ∨ drifted reading s.svc.cal.temperature = false ∨
    s.svc.cal.due = true))) ∧ (channel s s.smn.slot).limits.armed = .always ∧ (channel s s.smn.slot).limits.low ≤ reading ∧ reading ≤ (channel s
    s.smn.slot).limits.high ∧ (channel s s.smn.slot).active ≠ .neither ∧ (channel s s.smn.slot).inRange = 0 :=
  ⟨State.reset.modSmn fun m => { m with v12 := { m.v12 with active := .high } }, State.reset.smn.v12.limits.high, by decide⟩
theorem witness_MonitorReadingsAct_3 : ∃ (s : State), armedIn (channel s s.smn.slot).limits.armed s.csq.lifecycle = false ∧ (channel s
    s.smn.slot).active = .neither ∧ s.csq.lifecycle ≠ .ready ∧ (s.smn.slot = .iact → s.smn.roundComplete = true) :=
  ⟨State.reset.modSmn fun m => { m with slot := .iact, roundComplete := true }, by decide⟩
theorem witness_MonitorReadingsAct_4 : ∃ (s : State) (reading : Nat), s.smn.slot = .v5 ∧ s.csq.lifecycle = .stopped ∧ s.smn.v5.limits.armed = .always
    ∧ s.smn.v5.active = .neither ∧ s.smn.v5.limits.lowAction = .retract ∧ s.smn.v5.limits.lowPersistence = 1 ∧ s.smn.v5.runSide = .neither ∧ reading <
    s.smn.v5.limits.low :=
  ⟨(inLife .stopped).modSmn fun m =>
    { m with slot := .v5, v5 := { m.v5 with limits := { m.v5.limits with low := 1, armed := .always, lowAction := .retract, lowPersistence := 1 } } },
    0, by decide⟩
theorem witness_MonitorReadingsAct_5 : ∃ (s : State) (reading : Nat), s.smn.slot = .temp ∧ (s.csq.lifecycle ≠ .ready ∨ drifted reading
    s.svc.cal.temperature = false) ∧ s.smn.temp.limits.armed = .always ∧ s.smn.temp.active = .neither ∧ s.smn.temp.limits.highAction = .holdWrites ∧
    s.smn.temp.limits.highPersistence = 4 ∧ s.smn.temp.runSide = .high ∧ s.smn.temp.runCount = 3 ∧ s.smn.temp.limits.low ≤ reading ∧
    s.smn.temp.limits.high < reading ∧ s.txe.op = none :=
  ⟨(inLife .stopped).modSmn fun m =>
    { m with slot := .temp, temp := { m.temp with limits := { m.temp.limits with high := 254, armed := .always, highAction := .holdWrites, highPersistence := 4 }, runSide := .high, runCount := 3 } },
    255, by decide⟩
theorem witness_MonitorReadingsAct_6 : ∃ (o : SectorOp) (s : State) (reading : Nat), s.smn.slot = .temp ∧ (s.csq.lifecycle ≠ .ready ∨ drifted reading
    s.svc.cal.temperature = false) ∧ s.smn.temp.limits.armed = .always ∧ s.smn.temp.active = .neither ∧ s.smn.temp.limits.highAction = .holdWrites ∧
    s.smn.temp.limits.highPersistence = 4 ∧ s.smn.temp.runSide = .high ∧ s.smn.temp.runCount = 3 ∧ s.smn.temp.limits.low ≤ reading ∧
    s.smn.temp.limits.high < reading ∧ s.txe.op = some o ∧ o.dir = .write ∧ CanRetry o s ∧ s.svc.mode = .follow :=
  ⟨inField .write, withOp (inField .write) (ready.modSmn fun m =>
    { m with slot := .temp, temp := { m.temp with limits := { m.temp.limits with high := 254, armed := .always, highAction := .holdWrites, highPersistence := 4 }, runSide := .high, runCount := 3 } }),
    255, by decide⟩
theorem witness_MonitorReadingsAct_7 : ∃ (j : Job) (s : State) (reading : Nat), s.smn.slot = .ispin ∧ s.csq.lifecycle = .ready ∧ passTag s = none ∧
    s.txe.job = some j ∧ j.kind = .order ∧ (s.smn.ispin.limits.armed = .always ∨ s.smn.ispin.limits.armed = .ready) ∧ s.smn.ispin.active = .neither ∧
    s.smn.ispin.limits.highAction = .park ∧ s.smn.ispin.limits.highPersistence = 1 ∧ s.smn.ispin.runSide = .neither ∧ s.smn.ispin.limits.low ≤ reading
    ∧ s.smn.ispin.limits.high < reading :=
  ⟨orderJob .flush, withJob (orderJob .flush) (ready.modSmn fun m =>
    { m with slot := .ispin, ispin := { m.ispin with limits := { m.ispin.limits with high := 254, armed := .ready, highAction := .park, highPersistence := 1 } } }),
    255, by decide⟩
theorem witness_MonitorReadingsAct_8 : ∃ (s : State) (reading : Nat), s.smn.slot = .temp ∧ s.csq.lifecycle ≠ .ready ∧ s.smn.temp.limits.armed =
    .always ∧ s.smn.temp.active = .high ∧ s.smn.temp.limits.highAction = .holdWrites ∧ s.smn.temp.inRange = 1 ∧ s.smn.temp.limits.low ≤ reading ∧
    reading ≤ s.smn.temp.limits.high ∧ s.smn.v12.active = .neither ∧ s.smn.v5.active = .neither ∧ s.smn.ispin.active = .neither ∧ s.smn.iact.active =
    .neither ∧ s.sgc.heldDeparture = false :=
  ⟨(inLife .stopped).modSmn fun m =>
    { m with slot := .temp, temp := { m.temp with limits := { m.temp.limits with armed := .always, highAction := .holdWrites }, active := .high, inRange := 1 } },
    State.reset.smn.temp.limits.high, by decide⟩
theorem witness_MonitorReadingsAct_9 : ∃ (s : State) (reading : Nat), s.smn.slot = .v5 ∧ s.csq.lifecycle = .stopped ∧ s.csq.spinUpRequest = true ∧
    s.smn.roundComplete = true ∧ s.spc.state = .still ∧ s.smn.v5.limits.armed = .always ∧ s.smn.v5.active = .low ∧ s.smn.v5.limits.lowAction =
    .retract ∧ s.smn.v5.inRange = 1 ∧ s.smn.v5.limits.low ≤ reading ∧ reading ≤ s.smn.v5.limits.high ∧ s.smn.v12.active = .neither ∧ s.smn.temp.active
    = .neither ∧ s.smn.ispin.active = .neither ∧ s.smn.iact.active = .neither :=
  ⟨((inLife .stopped).modSmn fun m =>
    { m with slot := .v5, v5 := { m.v5 with limits := { m.v5.limits with armed := .always, lowAction := .retract }, active := .low, inRange := 1 } }).modCsq
    fun c => { c with spinUpRequest := true }, State.reset.smn.v5.limits.low, by decide⟩
theorem witness_MonitorReadingsAct_10 : ∃ (x : Nat) (j : Job) (s : State) (reading : Nat), s.smn.slot = .temp ∧ s.csq.lifecycle = .ready ∧
    s.smn.temp.active = .neither ∧ s.smn.temp.limits.low ≤ reading ∧ reading ≤ s.smn.temp.limits.high ∧ s.svc.cal.temperature = some x ∧ (x + 8 ≤
    reading ∨ reading + 8 ≤ x) ∧ s.svc.cal.due = false ∧ s.txe.job = some j ∧ j.kind = .order :=
  ⟨40, orderJob .flush, withJob (orderJob .flush) ((ready.modSmn fun m =>
    { m with slot := .temp, temp := { m.temp with limits := { m.temp.limits with low := 32, high := 32 } } }).modSvc fun v =>
    { v with cal := { v.cal with temperature := some 40 } }), 32, by decide⟩
theorem witness_MonitorReadingsAct_11 : ∃ (x : Nat) (s : State) (reading : Nat), s.smn.slot = .temp ∧ s.csq.lifecycle = .ready ∧ s.smn.temp.active =
    .neither ∧ s.smn.temp.limits.low ≤ reading ∧ reading ≤ s.smn.temp.limits.high ∧ s.svc.cal.temperature = some x ∧ (x + 8 ≤ reading ∨ reading + 8 ≤
    x) ∧ s.svc.cal.due = false ∧ s.txe.job = none ∧ s.txe.orderWaits = false ∧ s.svc.cal.stage = .idle ∧ passTag s = none ∧ OnTrack s ∧
    s.svc.targetCylinder ≠ 75 :=
  ⟨24, (ready.modSmn fun m => { m with slot := .temp, temp := { m.temp with limits := { m.temp.limits with low := 32, high := 32 } } }).modSvc fun v =>
    { v with cal := { v.cal with temperature := some 24 } }, 32, by decide⟩
theorem witness_MonitorReadingsAct_12 : ∃ (s : State) (reading : Nat), s.smn.slot = .iact ∧ s.smn.roundComplete = false ∧ s.smn.iact.active = .neither
    ∧ (armedIn s.smn.iact.limits.armed s.csq.lifecycle = true → s.smn.iact.limits.low ≤ reading ∧ reading ≤ s.smn.iact.limits.high) ∧ (s.csq.lifecycle
    ≠ .stopped ∨ s.csq.spinUpRequest = false) :=
  ⟨State.reset.modSmn fun m => { m with slot := .iact }, 0, by decide⟩
theorem witness_MonitorReadingsAct_13 : ∃ (s : State) (reading : Nat), s.smn.slot = .iact ∧ s.smn.roundComplete = false ∧ s.smn.iact.active = .neither
    ∧ (armedIn s.smn.iact.limits.armed s.csq.lifecycle = true → s.smn.iact.limits.low ≤ reading ∧ reading ≤ s.smn.iact.limits.high) ∧ s.csq.lifecycle
    = .stopped ∧ s.csq.spinUpRequest = true ∧ s.spc.state = .still ∧ gateShut s = false :=
  ⟨(State.reset.modSmn fun m => { m with slot := .iact }).modCsq fun c => { c with lifecycle := .stopped, spinUpRequest := true }, 0, by decide⟩
theorem witness_PollsOfferFrames_1 : ∃ (r : Report) (rest : List Report) (s : State), s.lif.reports = r :: rest :=
  ⟨aReport, [], ready.modLif fun l => { l with reports := [aReport] }, by decide⟩
theorem witness_PollsOfferFrames_2 : ∃ (r : Report) (rest : List Report) (s : State), s.lif.reports = r :: rest ∧ s.lif.exchange = .report :=
  ⟨aReport, [], ready.modLif fun l => { l with reports := [aReport], exchange := .report }, by decide⟩
theorem witness_PollsOfferFrames_3 : ∃ (s : State), s.lif.reports = [] ∧ s.lif.executing = none ∧ s.lif.readImage = [] :=
  ⟨ready, by decide⟩
theorem witness_PollsOfferFrames_4 : ∃ (tag : Nat) (first : Nat) (count : Nat) (p : Nat) (i : Nat) (m : Nat) (medium : Bool) (s : State),
    s.lif.executing = some { order := { tag := tag, kind := .read first count }, remnant := false, stage := .inSlot, blocks := p } ∧ s.txe.job = some
    (orderJob (.read m medium [] none)) ∧ s.txe.endPending = .no ∧ findWindow (windowBase (first + p)) s = some i ∧ i < s.sgc.segments.length ∧
    s.lif.reports = [] ∧ p < count ∧ (first + p) % 16 ∈ (segmentAt s i).valid :=
  ⟨3, 5, 1, 0, 0, 0, true, withOrder (.read 5 1) (withJob (orderJob (.read 0 true [] none)) (holding .order [5, 15] [] ready)) |>.modLif fun l =>
    { l with exchange := .block 0 }, by decide⟩
theorem witness_PollsOfferFrames_5 : ∃ (tag : Nat) (first : Nat) (count : Nat) (p : Nat) (i : Nat) (m : Nat) (medium : Bool) (s : State),
    s.lif.executing = some { order := { tag := tag, kind := .read first count }, remnant := false, stage := .inSlot, blocks := p } ∧ s.txe.job = some
    (orderJob (.read m medium [] none)) ∧ s.txe.endPending = .no ∧ findWindow (windowBase (first + p)) s = some i ∧ i < s.sgc.segments.length ∧
    s.lif.exchange = .block p ∧ p + 1 < count ∧ (first + p + 1) % 16 ≠ 0 :=
  ⟨3, 5, 2, 0, 0, 0, true, withOrder (.read 5 2) (withJob (orderJob (.read 0 true [] none)) (holding .order [5, 15] [] ready)) |>.modLif fun l =>
    { l with exchange := .block 0 }, by decide⟩
theorem witness_PollsOfferFrames_6 : ∃ (tag : Nat) (first : Nat) (count : Nat) (p : Nat) (i : Nat) (m : Nat) (medium : Bool) (s : State),
    s.lif.executing = some { order := { tag := tag, kind := .read first count }, remnant := false, stage := .inSlot, blocks := p } ∧ s.txe.job = some
    (orderJob (.read m medium [] none)) ∧ s.txe.endPending = .no ∧ findWindow (windowBase (first + p)) s = some i ∧ i < s.sgc.segments.length ∧
    s.lif.exchange = .block p ∧ p + 1 < count ∧ (first + p + 1) % 16 = 0 :=
  ⟨3, 15, 2, 0, 0, 0, true, withOrder (.read 15 2) (withJob (orderJob (.read 0 true [] none)) (holding .order [5, 15] [] ready)) |>.modLif fun l =>
    { l with exchange := .block 0 }, by decide⟩
theorem witness_PollsOfferFrames_7 : ∃ (tag : Nat) (first : Nat) (count : Nat) (p : Nat) (i : Nat) (m : Nat) (medium : Bool) (s : State),
    s.lif.executing = some { order := { tag := tag, kind := .read first count }, remnant := false, stage := .inSlot, blocks := p } ∧ s.txe.job = some
    (orderJob (.read m medium [] none)) ∧ s.txe.endPending = .no ∧ findWindow (windowBase (first + p)) s = some i ∧ i < s.sgc.segments.length ∧
    s.lif.exchange = .block p ∧ p + 1 = count ∧ NothingWaits s ∧ CacheSound s ∧ s.lif.settings.readAhead = true ∧ medium = true ∧ s.svc.cal.stage =
    .idle ∧ (first + count) % 16 ≠ 0 ∧ first + count < s.txe.capacity ∧ (first + count) % 16 ∉ (segmentAt s i).valid :=
  ⟨3, 5, 1, 0, 0, 0, true, withOrder (.read 5 1) (withJob (orderJob (.read 0 true [] none)) (holding .order [5, 15] [] ready)) |>.modLif fun l =>
    { l with exchange := .block 0 }, by decide⟩
theorem witness_PollsOfferFrames_8 : ∃ (tag : Nat) (first : Nat) (count : Nat) (p : Nat) (i : Nat) (m : Nat) (medium : Bool) (s : State),
    s.lif.executing = some { order := { tag := tag, kind := .read first count }, remnant := false, stage := .inSlot, blocks := p } ∧ s.txe.job = some
    (orderJob (.read m medium [] none)) ∧ s.txe.endPending = .no ∧ findWindow (windowBase (first + p)) s = some i ∧ i < s.sgc.segments.length ∧
    s.lif.exchange = .block p ∧ p + 1 = count ∧ NothingWaits s ∧ s.sgc.flushWanted = false ∧ (medium = false ∨ s.lif.settings.readAhead = false) :=
  ⟨3, 5, 1, 0, 0, 0, false, withOrder (.read 5 1) (withJob (orderJob (.read 0 false [] none)) (holding .order [5, 15] [] ready)) |>.modLif fun l =>
    { l with exchange := .block 0 }, by decide⟩
theorem witness_PollsOfferFrames_9 : ∃ (tag : Nat) (i : Nat) (f : List Byte) (s : State), s.lif.executing = some
    { order := { tag := tag, kind := .readTable i }, remnant := false, stage := .offering, blocks := 0 } ∧ s.lif.reports = [] ∧
    s.lif.readImage[s.lif.readIndex]? = some f :=
  ⟨3, 5, [2], withOrder (.readTable 5) ready |>.modLif fun l =>
    { l with readImage := [[1], [2]], readIndex := 1, exchange := .image, executing := l.executing.map fun e => { e with stage := .offering } }, by
    decide⟩
theorem witness_PollsOfferFrames_10 : ∃ (tag : Nat) (i : Nat) (s : State), s.lif.executing = some
    { order := { tag := tag, kind := .readTable i }, remnant := false, stage := .offering, blocks := 0 } ∧ s.lif.exchange = .image ∧ s.lif.readIndex +
    1 < s.lif.readImage.length :=
  ⟨3, 5, withOrder (.readTable 5) ready |>.modLif fun l =>
    { l with readImage := [[1], [2]], readIndex := 0, exchange := .image, executing := l.executing.map fun e => { e with stage := .offering } }, by
    decide⟩
theorem witness_PollsOfferFrames_11 : ∃ (tag : Nat) (i : Nat) (s : State), s.lif.executing = some
    { order := { tag := tag, kind := .readTable i }, remnant := false, stage := .offering, blocks := 0 } ∧ s.lif.exchange = .image ∧ s.lif.readIndex +
    1 = s.lif.readImage.length ∧ s.lif.orderQueue = [] :=
  ⟨3, 5, withOrder (.readTable 5) ready |>.modLif fun l =>
    { l with readImage := [[1], [2]], readIndex := 1, exchange := .image, executing := l.executing.map fun e => { e with stage := .offering } }, by
    decide⟩
theorem witness_TakenStatusClears : ∃ (x : ClearSet) (s : State), s.lif.exchange = .status x :=
  ⟨noClear, ready.modLif fun l => { l with exchange := .status noClear }, by decide⟩
theorem witness_DataOutPlacesABlock_1 : ∃ (tag : Nat) (first : Nat) (count : Nat) (index : Nat) (i : Nat) (blocks : Nat) (through : Bool) (payload :
    List Byte) (s : State), s.lif.executing = some
    { order := { tag := tag, kind := .write first count }, remnant := false, stage := .inSlot, blocks := blocks } ∧ s.txe.job = some (orderJob (.write
    through [])) ∧ s.lif.expectedIndex = index ∧ findWindow (windowBase (first + index)) s = some i ∧ (segmentAt s i).attachment = .order ∧ i <
    s.sgc.segments.length ∧ through = false ∧ index + 1 < count ∧ payload.length = 512 :=
  ⟨3, 5, 2, 0, 0, 0, false, List.replicate 512 1, withOrder (.write 5 2) (withJob (orderJob (.write false [])) (holding .order [] [] ready)), by decide +kernel⟩
theorem witness_DataOutPlacesABlock_2 : ∃ (tag : Nat) (first : Nat) (count : Nat) (index : Nat) (i : Nat) (blocks : Nat) (through : Bool) (payload :
    List Byte) (s : State), s.lif.executing = some
    { order := { tag := tag, kind := .write first count }, remnant := false, stage := .inSlot, blocks := blocks } ∧ s.txe.job = some (orderJob (.write
    through [])) ∧ s.lif.expectedIndex = index ∧ findWindow (windowBase (first + index)) s = some i ∧ (segmentAt s i).attachment = .order ∧ i <
    s.sgc.segments.length ∧ through = false ∧ index + 1 = count ∧ payload.length = 512 ∧ NothingWaits s ∧ s.sgc.flushWanted = false :=
  ⟨3, 5, 1, 0, 0, 0, false, List.replicate 512 1, withOrder (.write 5 1) (withJob (orderJob (.write false [])) (holding .order [] [] ready)), by decide +kernel⟩
theorem witness_DataOutPlacesABlock_3 : ∃ (tag : Nat) (first : Nat) (count : Nat) (index : Nat) (i : Nat) (blocks : Nat) (through : Bool) (payload :
    List Byte) (s : State), s.lif.executing = some
    { order := { tag := tag, kind := .write first count }, remnant := false, stage := .inSlot, blocks := blocks } ∧ s.txe.job = some (orderJob (.write
    through [])) ∧ s.lif.expectedIndex = index ∧ findWindow (windowBase (first + index)) s = some i ∧ (segmentAt s i).attachment = .order ∧ i <
    s.sgc.segments.length ∧ through = true ∧ index < count ∧ (index + 1 = count ∨ (first + index + 1) % 16 = 0) ∧ payload.length = 512 ∧ (segmentAt s
    i).dirty = [] ∧ s.svc.cal.stage = .idle :=
  ⟨3, 5, 1, 0, 0, 0, true, List.replicate 512 1, withOrder (.write 5 1) (withJob (orderJob (.write true [])) (holding .order [] [] ready)), by decide +kernel⟩
theorem witness_DataOutPlacesABlock_4 : ∃ (tag : Nat) (first : Nat) (count : Nat) (index : Nat) (i : Nat) (blocks : Nat) (through : Bool) (payload :
    List Byte) (s : State), s.lif.executing = some
    { order := { tag := tag, kind := .write first count }, remnant := false, stage := .inSlot, blocks := blocks } ∧ s.txe.job = some (orderJob (.write
    through [])) ∧ s.lif.expectedIndex = index ∧ findWindow (windowBase (first + index)) s = some i ∧ (segmentAt s i).attachment = .order ∧ i <
    s.sgc.segments.length ∧ index < count ∧ payload ≠ [] ∧ payload.length ≤ 512 :=
  ⟨3, 5, 1, 0, 0, 0, false, [1, 2], withOrder (.write 5 1) (withJob (orderJob (.write false [])) (holding .order [] [] ready)), by decide⟩
theorem witness_FramesTurnedAway_1 : ∃ (tag : Nat) (s : State), tagInUse tag s = true :=
  ⟨3, withOrder .flush ready, by decide⟩
theorem witness_FramesTurnedAway_2 : ∃ (tag : Nat) (s : State), tag ≤ 15 ∧ tagInUse tag s = false ∧ (4 ≤ s.lif.orderQueue.length ∨ 8 ≤ placesHeld s)
    :=
  ⟨15, ready.modLif fun l => { l with orderQueue := [0, 1, 2, 3].map fun t => { tag := t, kind := .flush } }, by decide⟩
theorem witness_LinkResetEmptiesTheQueues_1 : ∃ (s : State), s.lif.executing = none :=
  ⟨ready, by decide⟩
theorem witness_LinkResetEmptiesTheQueues_2 : ∃ (e : Executing) (s : State), s.lif.executing = some e ∧ (e.stage = .dispatched ∨ e.stage = .waitSlot ∨
    e.stage = .departing ∨ e.stage = .gathering ∨ e.stage = .offering) :=
  ⟨{ doing .flush with stage := .waitSlot }, ready.modLif fun l => { l with executing := some { doing .flush with stage := .waitSlot } }, by decide⟩
theorem witness_LinkResetEmptiesTheQueues_3 : ∃ (e : Executing) (s : State), s.lif.executing = some e ∧ e.stage = .waitStart ∧ e.order.kind.leaves =
    false :=
  ⟨{ doing .flush with stage := .waitStart }, ready.modLif fun l => { l with executing := some { doing .flush with stage := .waitStart } }, by decide⟩
theorem witness_LinkResetEmptiesTheQueues_4 : ∃ (e : Executing) (s : State), s.lif.executing = some e ∧ e.stage = .waitStart ∧ e.order.kind = .stop ∧
    s.csq.carried = none :=
  ⟨{ doing .stop with stage := .waitStart }, ready.modLif fun l => { l with executing := some { doing .stop with stage := .waitStart } }, by decide⟩
theorem witness_LinkResetEmptiesTheQueues_5 : ∃ (e : Executing) (option : Nat) (s : State), s.lif.executing = some e ∧ e.stage = .waitStart ∧
    e.order.kind = .eject option :=
  ⟨{ doing (.eject 1) with stage := .waitStart }, 1, ready.modLif fun l => { l with executing := some { doing (.eject 1) with stage := .waitStart } },
    by decide⟩
theorem witness_LinkResetEmptiesTheQueues_6 : ∃ (e : Executing) (s : State), s.lif.executing = some e ∧ (e.stage = .waitPass ∨ (e.stage = .inSlot ∧
    labelWriting s = true)) :=
  ⟨doing (.commitLabel 0), withOrder (.commitLabel 0) (withJob (orderJob (.label [1, 2, 0] false)) ready), by decide⟩
theorem witness_LinkResetEmptiesTheQueues_7 : ∃ (e : Executing) (o : SectorOp) (s : State), s.lif.executing = some e ∧ e.stage = .inSlot ∧
    labelWriting s = false ∧ s.txe.op = some o ∧ o.phase = .transferring :=
  ⟨doing .flush, inField .write, withOrder .flush (withJob (orderJob .flush) (withOp (inField .write) ready)), by decide⟩
theorem witness_LinkResetEmptiesTheQueues_8 : ∃ (e : Executing) (s : State), s.lif.executing = some e ∧ e.stage = .inSlot ∧ labelWriting s = false ∧
    atBoundary s = true ∧ orderInSlot s = true ∧ s.csq.lifecycle = .ready ∧ s.svc.cal.due = false ∧ s.txe.orderWaits = false ∧ s.txe.departureWaits =
    false ∧ s.sgc.flushWanted = false :=
  ⟨doing .flush, withOrder .flush (withJob (orderJob .flush) (withOp (looking .write) ready)), by decide⟩
theorem witness_StatusReportsTheState : ∃ (tag : Nat), tag ≤ 15 :=
  ⟨15, by decide⟩
theorem witness_AbortEndsOrders_1 : ∃ (tag : Nat) (victim : Nat) (q : Order) (s : State), tag ≤ 15 ∧ s.lif.executing = none ∧ s.lif.orderQueue = [q] ∧
    q.tag = victim :=
  ⟨15, 2, { tag := 2, kind := .flush }, ready.modLif fun l => { l with orderQueue := [{ tag := 2, kind := .flush }] }, by decide⟩
theorem witness_AbortEndsOrders_2 : ∃ (tag : Nat) (victim : Nat) (s : State), tag ≤ 15 ∧ s.lif.executing = none ∧ s.lif.orderQueue = [] ∧ (∀ r ∈
    s.lif.reports, r.tag ≠ victim) :=
  ⟨15, 2, ready, by decide⟩
theorem witness_AbortEndsOrders_3 : ∃ (tag : Nat) (s : State), tag ≤ 15 ∧ s.lif.executing = none :=
  ⟨15, ready, by decide⟩
theorem witness_AbortEndsOrders_4 : ∃ (tag : Nat) (victim : Nat) (option : Nat) (e : Executing) (s : State), tag ≤ 15 ∧ s.lif.executing = some e ∧
    e.remnant = false ∧ e.order.tag = victim ∧ s.lif.orderQueue = [] ∧ (e.order.kind = .start ∨ e.order.kind = .stop ∨ (e.order.kind = .eject option ∧
    (s.csq.lifecycle ≠ .eject ∨ s.csq.ejectRound = .first)) ∨ (e.order.kind = .calibrate ∧ e.stage = .waitPass) ∨ (e.order.kind = .commitLabel option
    ∧ e.stage = .inSlot ∧ labelBegun s = true)) :=
  ⟨15, 3, 0, doing (.commitLabel 0), withOrder (.commitLabel 0) (withJob (orderJob (.label [1, 2, 0] true)) ready), by decide⟩
theorem witness_AbortEndsOrders_5 : ∃ (tag : Nat) (victim : Nat) (e : Executing) (s : State), tag ≤ 15 ∧ s.lif.executing = some e ∧ e.remnant = false
    ∧ e.order.tag = victim ∧ s.lif.orderQueue = [] ∧ e.order.kind ≠ .start ∧ e.order.kind.leaves = false ∧ (e.stage = .waitStart ∨ e.stage =
    .gathering ∨ e.stage = .offering) :=
  ⟨15, 3, { doing (.loadTable 2 1) with stage := .gathering }, ready.modLif fun l =>
    { l with executing := some { doing (.loadTable 2 1) with stage := .gathering } }, by decide⟩
theorem witness_AbortEndsOrders_6 : ∃ (tag : Nat) (victim : Nat) (e : Executing) (o : SectorOp) (s : State), tag ≤ 15 ∧ s.lif.executing = some e ∧
    e.remnant = false ∧ e.order.tag = victim ∧ s.lif.orderQueue = [] ∧ e.order.kind ≠ .start ∧ e.order.kind.leaves = false ∧ e.stage = .inSlot ∧
    labelBegun s = false ∧ s.txe.op = some o ∧ o.phase = .transferring :=
  ⟨15, 3, doing .flush, inField .write, withOrder .flush (withJob (orderJob .flush) (withOp (inField .write) ready)), by decide⟩
theorem witness_AbortEndsOrders_7 : ∃ (tag : Nat) (victim : Nat) (e : Executing) (s : State), tag ≤ 15 ∧ s.lif.executing = some e ∧ e.remnant = false
    ∧ e.order.tag = victim ∧ s.lif.orderQueue = [] ∧ e.order.kind ≠ .start ∧ e.order.kind.leaves = false ∧ e.stage = .inSlot ∧ labelBegun s = false ∧
    atBoundary s = true ∧ orderInSlot s = true ∧ NothingWaits s ∧ s.sgc.flushWanted = false :=
  ⟨15, 3, doing .flush, withOrder .flush (withJob (orderJob .flush) (withOp (looking .write) ready)), by decide⟩
theorem witness_AbortEndsOrders_8 : ∃ (tag : Nat) (victim : Nat) (option : Nat) (e : Executing) (s : State), tag ≤ 15 ∧ s.lif.executing = some e ∧
    e.remnant = false ∧ e.order.tag = victim ∧ s.lif.orderQueue = [] ∧ e.order.kind = .eject option ∧ s.csq.lifecycle = .eject ∧ s.csq.ejectRound =
    .retry :=
  ⟨15, 3, 0, doing (.eject 0), (withOrder (.eject 0) (inLife .eject)).modCsq fun c => { c with ejectRound := .retry }, by decide⟩
theorem witness_AbortEndsOrders_9 : ∃ (tag : Nat) (e : Executing) (s : State), tag ≤ 15 ∧ s.lif.executing = some e ∧ e.remnant = false ∧ e.order.kind
    = .start :=
  ⟨15, doing .start, withOrder .start ready, by decide⟩
theorem witness_StartAndStopAtRest_1 : ∃ (tag : Nat) (s : State), QuietReady tag s :=
  ⟨15, ready, by decide⟩
theorem witness_StartAndStopAtRest_2 : ∃ (tag : Nat) (s : State), Quiet tag s ∧ s.csq.lifecycle = .stopped :=
  ⟨15, inLife .stopped, by decide⟩
theorem witness_EjectFromStopped_1 : ∃ (tag : Nat) (s : State), Quiet tag s ∧ s.csq.lifecycle = .stopped ∧ s.csq.removalPrevented = false ∧ dirtyCount
    s = 0 ∧ s.txe.labelModified = false ∧ s.svc.mode = .parked ∧ s.spc.lastCheckConfirmed = true ∧ s.pins.present = true :=
  ⟨3, inLife .stopped, by decide⟩
theorem witness_EjectFromStopped_2 : ∃ (tag : Nat) (s : State), Quiet tag s ∧ s.csq.lifecycle = .stopped ∧ s.csq.removalPrevented = false ∧ dirtyCount
    s = 0 ∧ s.txe.labelModified = false ∧ s.svc.mode = .parked ∧ s.spc.lastCheckConfirmed = true ∧ s.pins.present = false :=
  ⟨3, (inLife .stopped).modPins fun p => { p with present := false }, by decide⟩
theorem witness_EjectFromStopped_3 : ∃ (tag : Nat) (s : State), Quiet tag s ∧ s.csq.lifecycle = .stopped ∧ s.csq.removalPrevented = false ∧ dirtyCount
    s ≠ 0 :=
  ⟨3, holding .free [5] [5] (inLife .stopped), by decide⟩
theorem witness_EjectFromStopped_4 : ∃ (tag : Nat) (s : State), Quiet tag s ∧ s.csq.lifecycle = .stopped ∧ s.csq.removalPrevented = false ∧ dirtyCount
    s ≠ 0 ∧ s.svc.mode = .parked ∧ s.spc.lastCheckConfirmed = true ∧ s.pins.present = true :=
  ⟨3, holding .free [5] [5] (inLife .stopped), by decide⟩
theorem witness_RemovalAndSetEndAtOnce_1 : ∃ (tag : Nat) (s : State), Quiet tag s :=
  ⟨3, ready, by decide⟩
theorem witness_RemovalAndSetEndAtOnce_2 : ∃ (tag : Nat) (s : State) (image : SettingsImage), Quiet tag s ∧ settingsOk image = true :=
  ⟨3, ready, settings 60, by decide⟩
theorem witness_RemovalAndSetEndAtOnce_3 : ∃ (tag : Nat) (s : State) (image : SettingsImage), Quiet tag s ∧ settingsOk image = false :=
  ⟨3, State.reset, settings 61, by decide⟩
theorem witness_SeekStartsANewSeek : ∃ (tag : Nat) (cylinder : Nat) (head : Nat) (s : State), QuietReady tag s ∧ OnTrack s ∧ s.svc.cal.stage = .idle ∧
    cylinder ≤ 1199 ∧ head ≤ 1 ∧ cylinder ≠ s.svc.targetCylinder :=
  ⟨3, 1199, 1, ready, by decide⟩
theorem witness_ReadAllocatesAndLooks : ∃ (tag : Nat) (first : Nat) (count : Nat) (i : Nat) (s : State), QuietReady tag s ∧ s.svc.cal.stage = .idle ∧
    1 ≤ count ∧ count ≤ 256 ∧ s.txe.labelStatus = .valid ∧ first + count ≤ s.txe.capacity ∧ findWindow (windowBase first) s = none ∧ freeCandidate s =
    some i ∧ i < s.sgc.segments.length :=
  ⟨3, 71735, 1, 7, ready, by decide⟩
theorem witness_WriteTakesTheSlot_1 : ∃ (tag : Nat) (first : Nat) (count : Nat) (s : State), QuietReady tag s ∧ 1 ≤ count ∧ count ≤ 256 ∧
    s.txe.labelStatus = .valid ∧ s.csq.writeProtected = false ∧ first + count ≤ s.txe.capacity :=
  ⟨3, 71480, 256, ready, by decide⟩
theorem witness_WriteTakesTheSlot_2 : ∃ (tag : Nat) (count : Nat) (s : State), QuietReady tag s ∧ 1 ≤ count ∧ count ≤ 256 ∧ s.txe.labelStatus = .valid
    ∧ s.csq.writeProtected = true :=
  ⟨3, 1, ready.modCsq fun c => { c with writeProtected := true }, by decide⟩
theorem witness_WriteTakesTheSlot_3 : ∃ (tag : Nat) (first : Nat) (count : Nat) (s : State), QuietReady tag s ∧ 1 ≤ count ∧ count ≤ 256 ∧
    s.txe.labelStatus = .valid ∧ s.csq.writeProtected = false ∧ s.txe.capacity < first + count :=
  ⟨3, 71736, 1, ready, by decide⟩
theorem witness_FlushWritesInOrder_1 : ∃ (tag : Nat) (s : State), s.svc.cal.stage = .idle ∧ QuietReady tag s ∧ dirtyCount s = 0 ∧ Unattached s :=
  ⟨3, ready, by decide⟩
theorem witness_FlushWritesInOrder_2 : ∃ (tag : Nat) (n : Nat) (s : State), s.svc.cal.stage = .idle ∧ QuietReady tag s ∧ CacheSound s ∧ LeastDirty n s
    :=
  ⟨3, 5, holding .free [5, 15] [5, 15] ready, by decide⟩
theorem witness_FlushWritesInOrder_3 : ∃ (n : Nat) (m : Nat) (o : SectorOp) (e : Executing) (s : State), s.svc.cal.stage = .idle ∧ CacheSound s ∧ n ∈
    dirtyBlocks s ∧ s.txe.op = some o ∧ o.phase = .transferring ∧ o.dir = .write ∧ o.target = .block n ∧ s.txe.job = some (orderJob .flush) ∧
    s.lif.executing = some e ∧ s.txe.yieldPending = false ∧ s.txe.endPending = .no ∧ m ∈ dirtyBlocks s ∧ m ≠ n ∧ (∀ k ∈ dirtyBlocks s, k ≠ n → m ≤ k)
    :=
  ⟨5, 15, inField .write, doing .flush, withOrder .flush (withJob (orderJob .flush) (withOp (inField .write) (holding .flush [5, 15] [5, 15] ready))),
    by decide⟩
theorem witness_FlushWritesInOrder_4 : ∃ (n : Nat) (m : Nat) (o : SectorOp) (e : Executing) (s : State), s.svc.cal.stage = .idle ∧ CacheSound s ∧ n ∈
    dirtyBlocks s ∧ s.txe.op = some o ∧ o.phase = .transferring ∧ o.dir = .write ∧ o.target = .block n ∧ s.txe.job = some (orderJob .flush) ∧
    s.lif.executing = some e ∧ s.txe.yieldPending = false ∧ s.txe.endPending = .abort ∧ m ∈ dirtyBlocks s ∧ m ≠ n ∧ e.remnant = false ∧ e.order.kind =
    .flush ∧ NothingWaits s ∧ s.sgc.flushWanted = false :=
  ⟨5, 15, inField .write, doing .flush, (withOrder .flush (withJob (orderJob .flush) (withOp (inField .write) (holding .flush [5, 15] [5, 15]
    ready)))).modTxe fun t => { t with endPending := .abort }, by decide⟩
theorem witness_FlushWritesInOrder_5 : ∃ (n : Nat) (o : SectorOp) (e : Executing) (s : State), s.svc.cal.stage = .idle ∧ CacheSound s ∧ n ∈
    dirtyBlocks s ∧ s.txe.op = some o ∧ o.phase = .transferring ∧ o.dir = .write ∧ o.target = .block n ∧ s.txe.job = some (orderJob .flush) ∧
    s.lif.executing = some e ∧ s.txe.yieldPending = false ∧ dirtyBlocks s = [n] ∧ e.remnant = false ∧ e.order.kind = .flush ∧ NothingWaits s :=
  ⟨5, inField .write, doing .flush, withOrder .flush (withJob (orderJob .flush) (withOp (inField .write) (holding .flush [5, 15] [5] ready))), by
    decide⟩
theorem witness_ReassignInsertsAnEntry_1 : ∃ (tag : Nat) (block : Nat) (k : Nat) (s : State), QuietReady tag s ∧ Unattached s ∧ s.txe.labelStatus =
    .valid ∧ s.csq.writeProtected = false ∧ block < s.txe.capacity ∧ lookupDefect block s.txe.defects = none ∧ s.txe.defects.length < 128 ∧ freeSpare
    s.txe.spareCount s.txe.defects = some k ∧ blockValid block s = false :=
  ⟨3, 71735, 0, ready, by decide⟩
theorem witness_ReassignInsertsAnEntry_2 : ∃ (tag : Nat) (block : Nat) (k : Nat) (i : Nat) (s : State), QuietReady tag s ∧ Unattached s ∧
    s.txe.labelStatus = .valid ∧ s.csq.writeProtected = false ∧ block < s.txe.capacity ∧ lookupDefect block s.txe.defects = none ∧
    s.txe.defects.length < 128 ∧ freeSpare s.txe.spareCount s.txe.defects = some k ∧ findWindow (windowBase block) s = some i ∧ block % 16 ∈
    (segmentAt s i).valid :=
  ⟨3, 5, 0, 0, holding .free [5] [] ready, by decide⟩
theorem witness_ReassignInsertsAnEntry_3 : ∃ (tag : Nat) (block : Nat) (s : State), QuietReady tag s ∧ Unattached s ∧ s.txe.labelStatus = .valid ∧
    s.csq.writeProtected = false ∧ block < s.txe.capacity ∧ (lookupDefect block s.txe.defects).isSome = true :=
  ⟨3, 5, ready.modTxe fun t => { t with defects := [{ block := 5, spare := 0 }] }, by decide⟩
theorem witness_ReassignInsertsAnEntry_4 : ∃ (tag : Nat) (block : Nat) (s : State), QuietReady tag s ∧ Unattached s ∧ s.txe.labelStatus = .valid ∧
    s.csq.writeProtected = false ∧ s.txe.capacity ≤ block :=
  ⟨3, 71736, ready, by decide⟩
theorem witness_CommitBeginsTheLabelWrite_1 : ∃ (tag : Nat) (option : Nat) (s : State), QuietReady tag s ∧ s.svc.cal.stage = .idle ∧ option ≤ 1 ∧
    s.txe.labelStatus ≠ .unread ∧ s.csq.writeProtected = false ∧ (s.txe.labelStatus = .foreign → option = 1) :=
  ⟨3, 1, ready.modTxe fun t => { t with labelStatus := .foreign }, by decide⟩
theorem witness_CommitBeginsTheLabelWrite_2 : ∃ (tag : Nat) (option : Nat) (s : State), QuietReady tag s ∧ s.svc.cal.stage = .idle ∧ option ≤ 1 ∧
    s.csq.writeProtected = false ∧ s.txe.labelStatus = .foreign ∧ option = 0 :=
  ⟨3, 0, ready.modTxe fun t => { t with labelStatus := .foreign }, by decide⟩
theorem witness_CommitBeginsTheLabelWrite_3 : ∃ (tag : Nat) (option : Nat) (s : State), QuietReady tag s ∧ s.svc.cal.stage = .idle ∧ option ≤ 1 ∧
    s.csq.writeProtected = true ∧ s.txe.labelStatus ≠ .unread :=
  ⟨3, 0, ready.modCsq fun c => { c with writeProtected := true }, by decide⟩
theorem witness_CalibrationPassRuns_1 : ∃ (tag : Nat) (s : State), QuietReady tag s ∧ s.svc.cal.stage = .idle ∧ OnTrack s ∧ s.svc.targetCylinder ≠ 75
    :=
  ⟨3, ready, by decide⟩
theorem witness_CalibrationPassRuns_2 : ∃ (s : State) (r : ServoRecord), Gathers r s ∧ (sampleError r s.svc).natAbs ≤ 24 ∧ s.svc.cal.gathered < 63 :=
  ⟨gathering 0 62 1, sample 75 140 116, by decide⟩
theorem witness_CalibrationPassRuns_3 : ∃ (s : State) (r : ServoRecord), Gathers r s ∧ (sampleError r s.svc).natAbs ≤ 24 ∧ s.svc.cal.gathered = 63 ∧
    s.svc.cal.band < 7 ∧ s.svc.requester = .calibration ∧ s.svc.targetCylinder = 150 * s.svc.cal.band + 75 :=
  ⟨gathering 6 63 0, sample 975 140 116, by decide⟩
theorem witness_CalibrationPassRuns_4 : ∃ (s : State) (r : ServoRecord), Gathers r s ∧ s.svc.cal.falls = 0 ∧ 24 < (sampleError r s.svc).natAbs ∧
    (sampleError r s.svc).natAbs ≤ 256 :=
  ⟨gathering 7 5 0, sample 1126 128 128, by decide⟩
theorem witness_CalibrationPassRuns_5 : ∃ (s : State) (r : ServoRecord), Gathers r s ∧ s.svc.cal.falls = 0 ∧ 256 < (sampleError r s.svc).natAbs :=
  ⟨gathering 7 5 0, sample 1126 140 116, by decide⟩
theorem witness_CalibrationPassRuns_6 : ∃ (s : State) (r : ServoRecord), Gathers r s ∧ s.svc.cal.falls = 1 ∧ 24 < (sampleError r s.svc).natAbs ∧
    (sampleError r s.svc).natAbs ≤ 256 ∧ s.svc.cal.band < 7 ∧ s.svc.requester = .calibration ∧ s.svc.targetCylinder = 150 * s.svc.cal.band + 75 :=
  ⟨gathering 6 5 1, sample 976 128 128, by decide⟩
theorem witness_CalibrationPassRuns_7 : ∃ (n : Nat) (e : Executing) (r : ServoRecord) (s : State), Gathers r s ∧ (sampleError r s.svc).natAbs ≤ 24 ∧
    s.svc.cal.gathered = 63 ∧ s.svc.cal.band = 7 ∧ s.csq.lifecycle = .calibrate ∧ s.lif.executing = some e ∧ e.order.kind = .calibrate ∧ e.stage =
    .waitPass ∧ e.remnant = false ∧ s.svc.cal.passOrder = some n ∧ s.lif.orderQueue = [] ∧ s.txe.job = none ∧ s.txe.orderWaits = false ∧
    s.txe.departureWaits = false ∧ s.sgc.flushWanted = false ∧ s.csq.ejectPending = false ∧ s.csq.carried = none :=
  ⟨3, { doing .calibrate with stage := .waitPass }, sample 1125 140 116, (((gathering 7 63 0).modCsq fun c => { c with lifecycle := .calibrate }).modSvc
    fun v => { v with cal := { v.cal with passOrder := some 3 } }).modLif fun l =>
    { l with executing := some { doing .calibrate with stage := .waitPass } }, by decide⟩
theorem witness_LoadTablesGather_1 : ∃ (tag : Nat) (frames : Nat) (s : State), Quiet tag s ∧ frames = 1 :=
  ⟨3, 1, State.reset, by decide⟩
theorem witness_LoadTablesGather_2 : ∃ (tag : Nat) (frames : Nat) (s : State), Quiet tag s ∧ (frames = 1 ∨ frames = 2) :=
  ⟨3, 2, State.reset, by decide⟩
theorem witness_LoadTablesGather_3 : ∃ (tag : Nat) (frames : Nat) (s : State), Quiet tag s ∧ frames ≠ 1 :=
  ⟨3, 0, State.reset, by decide⟩
theorem witness_TablesLoadWhole_1 : ∃ (tag : Nat) (payload : List Byte) (s : State), LastFrameDue tag 1 [] s ∧ payload.length = 99 ∧ profileOk
    (profileOf payload) = true :=
  ⟨3, profileBytes Config.romProfile, loading 1 [] State.reset, by decide +kernel⟩
theorem witness_TablesLoadWhole_2 : ∃ (tag : Nat) (payload : List Byte) (s : State), LastFrameDue tag 1 [] s ∧ payload.length = 99 ∧ profileOk
    (profileOf payload) = false :=
  ⟨3, List.replicate 99 0, loading 1 [] State.reset, by decide +kernel⟩
theorem witness_TablesLoadWhole_3 : ∃ (tag : Nat) (payload : List Byte) (s : State), LastFrameDue tag 2 [] s ∧ payload.length = 8 ∧ (∀ b ∈ payload,
    (-32 : Int) ≤ b.toInt ∧ b.toInt ≤ 31) :=
  ⟨3, [224#8, 31#8, 0#8, 0#8, 0#8, 0#8, 0#8, 255#8], loading 2 [] State.reset, by decide +kernel⟩
theorem witness_TablesLoadWhole_4 : ∃ (tag : Nat) (payload : List Byte) (s : State), LastFrameDue tag 2 [] s ∧ payload.length = 8 ∧ (∃ b ∈ payload,
    b.toInt < (-32 : Int) ∨ (31 : Int) < b.toInt) :=
  ⟨3, [223#8, 31#8, 0#8, 0#8, 0#8, 0#8, 0#8, 255#8], loading 2 [] State.reset, by decide +kernel⟩
theorem witness_TablesLoadWhole_5 : ∃ (tag : Nat) (payload : List Byte) (s : State), LastFrameDue tag 3 [] s ∧ payload.length = 18 ∧ GateSafe s ∧
    (s.csq.lifecycle = .empty ∨ (s.csq.lifecycle = .stopped ∧ dirtyCount s = 0 ∧ s.txe.labelModified = false)) ∧ zoneTableOk (zoneTableOf payload) =
    true :=
  ⟨3, (zoneBytes resetTxe).take 18, loading 3 [] (inLife .stopped), by decide +kernel⟩
theorem witness_TablesLoadWhole_6 : ∃ (tag : Nat) (payload : List Byte) (s : State), LastFrameDue tag 3 [] s ∧ payload.length = 18 ∧ GateSafe s ∧
    (s.csq.lifecycle = .empty ∨ (s.csq.lifecycle = .stopped ∧ dirtyCount s = 0 ∧ s.txe.labelModified = false)) ∧ zoneTableOk (zoneTableOf payload) =
    false :=
  ⟨3, List.replicate 18 0, loading 3 [] State.reset, by decide +kernel⟩
theorem witness_TablesLoadWhole_7 : ∃ (tag : Nat) (payload : List Byte) (s : State), LastFrameDue tag 3 [] s ∧ payload.length = 18 ∧ s.csq.lifecycle =
    .stopped ∧ (dirtyCount s ≠ 0 ∨ s.txe.labelModified = true) :=
  ⟨3, (zoneBytes resetTxe).take 18, loading 3 [] (holding .free [5] [5] (inLife .stopped)), by decide +kernel⟩
theorem witness_TablesLoadWhole_8 : ∃ (tag : Nat) (payload : List Byte) (s : State), LastFrameDue tag 3 [] s ∧ payload.length = 18 ∧ s.csq.lifecycle ≠
    .empty ∧ s.csq.lifecycle ≠ .stopped :=
  ⟨3, (zoneBytes resetTxe).take 18, loading 3 [] ready, by decide +kernel⟩
theorem witness_TablesLoadWhole_9 : ∃ (tag : Nat) (payload : List Byte) (s : State) (limits : List Limits), LastFrameDue tag 4 [] s ∧ payload.length =
    35 ∧ monitorOf payload 5 = some limits ∧ (s.csq.lifecycle ≠ .stopped ∨ s.csq.spinUpRequest = false) ∧ s.sgc.heldDeparture = false :=
  ⟨3, channels.flatMap fun c => limitsBytes (channel State.reset c).limits, loading 4 [] State.reset, channels.map fun c => (channel State.reset
    c).limits, by decide +kernel⟩
theorem witness_TablesLoadWhole_10 : ∃ (tag : Nat) (payload : List Byte) (s : State), LastFrameDue tag 4 [] s ∧ payload.length = 35 ∧ monitorOf
    payload 5 = none :=
  ⟨3, List.replicate 35 255, loading 4 [] State.reset, by decide +kernel⟩
theorem witness_TablesLoadWhole_11 : ∃ (tag : Nat) (payload : List Byte) (s : State) (prev : List (List Byte)) (l : List DefectEntry), LastFrameDue tag 5 prev s ∧
    prev.length ≤ 1 ∧ payload.length = 258 ∧ s.csq.lifecycle = .ready ∧ s.txe.labelStatus = .valid ∧ s.csq.writeProtected = false ∧ dirtyCount s = 0 ∧
    defectsOf (prev ++ [payload]) = some l ∧ defectsOk s.txe.capacity s.txe.spareCount l = true ∧ s.txe.job = none ∧ s.svc.cal.due = false ∧
    s.txe.orderWaits = false ∧ s.txe.departureWaits = false ∧ s.txe.op = none ∧ s.txe.gate = false ∧ s.txe.jobRecovered = false :=
  ⟨3, (defectFrames [⟨71735, 191⟩]).headD [], loading 5 [] ready, [], [⟨71735, 191⟩], by decide +kernel⟩
theorem witness_TablesLoadWhole_12 : ∃ (tag : Nat) (payload : List Byte) (s : State) (prev : List (List Byte)) (l : List DefectEntry), LastFrameDue tag 5 prev s ∧
    prev.length ≤ 1 ∧ payload.length = 258 ∧ s.csq.lifecycle = .ready ∧ s.txe.labelStatus = .valid ∧ s.csq.writeProtected = false ∧ dirtyCount s = 0 ∧
    (defectsOf (prev ++ [payload]) = none ∨ (defectsOf (prev ++ [payload]) = some l ∧ defectsOk s.txe.capacity s.txe.spareCount l = false)) :=
  ⟨3, List.replicate 258 255, loading 5 [[]] ready, [[]], [], by decide +kernel⟩
theorem witness_TablesLoadWhole_13 : ∃ (tag : Nat) (payload : List Byte) (s : State) (prev : List (List Byte)), LastFrameDue tag 5 prev s ∧ prev.length ≤ 1 ∧
    payload.length = 258 ∧ s.csq.lifecycle = .empty :=
  ⟨3, List.replicate 258 255, loading 5 [[]] State.reset, [[]], by decide +kernel⟩
theorem witness_TablesLoadWhole_14 : ∃ (tag : Nat) (payload : List Byte) (s : State) (prev : List (List Byte)), LastFrameDue tag 5 prev s ∧ prev.length ≤ 1 ∧
    payload.length = 258 ∧ s.csq.lifecycle ≠ .empty ∧ s.csq.lifecycle ≠ .ready :=
  ⟨3, List.replicate 258 255, loading 5 [[]] (inLife .stopped), [[]], by decide +kernel⟩
theorem witness_TablesLoadWhole_15 : ∃ (tag : Nat) (payload : List Byte) (s : State) (prev : List (List Byte)), LastFrameDue tag 5 prev s ∧ prev.length ≤ 1 ∧
    payload.length = 258 ∧ s.csq.lifecycle = .ready ∧ s.txe.labelStatus ≠ .valid :=
  ⟨3, List.replicate 258 255, loading 5 [[]] (ready.modTxe fun t => { t with labelStatus := .blank }), [[]], by decide +kernel⟩
theorem witness_TablesLoadWhole_16 : ∃ (tag : Nat) (payload : List Byte) (s : State) (prev : List (List Byte)), LastFrameDue tag 5 prev s ∧ prev.length ≤ 1 ∧
    payload.length = 258 ∧ s.csq.lifecycle = .ready ∧ s.txe.labelStatus = .valid ∧ s.csq.writeProtected = true :=
  ⟨3, List.replicate 258 255, loading 5 [[]] (ready.modCsq fun c => { c with writeProtected := true }), [[]], by decide +kernel⟩
theorem witness_TablesLoadWhole_17 : ∃ (tag : Nat) (payload : List Byte) (s : State) (prev : List (List Byte)), LastFrameDue tag 5 prev s ∧ prev.length ≤ 1 ∧
    payload.length = 258 ∧ s.csq.lifecycle = .ready ∧ s.txe.labelStatus = .valid ∧ s.csq.writeProtected = false ∧ dirtyCount s ≠ 0 :=
  ⟨3, List.replicate 258 255, loading 5 [[]] (holding .free [5] [5] ready), [[]], by decide +kernel⟩
theorem witness_TablesLoadWhole_18 : ∃ (tag : Nat) (payload : List Byte) (s : State), LastFrameDue tag 6 [] s ∧ payload.length = 20 ∧ GateSafe s ∧
    s.csq.lifecycle = .ready ∧ s.txe.labelStatus ≠ .unread ∧ s.csq.writeProtected = false :=
  ⟨3, List.replicate 20 65, loading 6 [] ready, by decide +kernel⟩
theorem witness_TablesLoadWhole_19 : ∃ (tag : Nat) (payload : List Byte) (s : State), LastFrameDue tag 6 [] s ∧ payload.length = 20 ∧ s.csq.lifecycle
    = .empty :=
  ⟨3, List.replicate 20 65, loading 6 [] State.reset, by decide +kernel⟩
theorem witness_TablesLoadWhole_20 : ∃ (tag : Nat) (payload : List Byte) (s : State), LastFrameDue tag 6 [] s ∧ payload.length = 20 ∧ s.csq.lifecycle
    ≠ .empty ∧ s.csq.lifecycle ≠ .ready :=
  ⟨3, List.replicate 20 65, loading 6 [] (inLife .jammed), by decide +kernel⟩
theorem witness_TablesLoadWhole_21 : ∃ (tag : Nat) (payload : List Byte) (s : State), LastFrameDue tag 6 [] s ∧ payload.length = 20 ∧ s.csq.lifecycle
    = .ready ∧ s.txe.labelStatus = .unread :=
  ⟨3, List.replicate 20 65, loading 6 [] (ready.modTxe fun t => { t with labelStatus := .unread }), by decide +kernel⟩
theorem witness_TablesLoadWhole_22 : ∃ (tag : Nat) (payload : List Byte) (s : State), LastFrameDue tag 6 [] s ∧ payload.length = 20 ∧ s.csq.lifecycle
    = .ready ∧ s.txe.labelStatus ≠ .unread ∧ s.csq.writeProtected = true :=
  ⟨3, List.replicate 20 65, loading 6 [] (ready.modCsq fun c => { c with writeProtected := true }), by decide +kernel⟩
theorem witness_ReadTablesOffer : ∃ (tag : Nat) (s : State), Quiet tag s :=
  ⟨3, State.reset, by decide⟩
theorem witness_OffsetFollowsTheRatio : ∃ (a : Nat) (b : Nat) (c : Nat) (d : Nat), a < 256 ∧ b < 256 ∧ c < 256 ∧ d < 256 ∧ 40 ≤ a + b ∧ 40 ≤ c + d :=
  ⟨20, 20, 255, 255, by decide⟩
theorem witness_LabelReadsBack : ∃ (t : Txe), zoneTableOk t.zones = true ∧ t.capacity = capacityOf t.zones ∧ t.spareCount = spareCountOf t.zones ∧ (∀
    r, t.record = some r → r.serial < 4294967296 ∧ r.name.length = 16) ∧ defectsOk t.capacity t.spareCount t.defects = true :=
  ⟨labelled resetTxe, by decide⟩

theorem witness_BlocksHaveTheirOwnSectors : ∃ (t : ZoneTable) (n m : Nat), zoneTableOk t = true ∧ n < capacityOf t ∧ m < capacityOf t ∧
    mapZones t.spareStart t.zones n = mapZones t.spareStart t.zones m :=
  ⟨Config.romZones, 71735, 71735, by decide⟩
theorem witness_FramesDecodeToTheirCommands : ∃ (address other : Nat) (c : Instr) (frame : List Byte), address < 4 ∧ other < 4 ∧
    other ≠ address ∧ c.wf = true ∧ encodeCommand address c = some frame :=
  ⟨3, 0, .seek 15 65535 255, _, by decide, by decide, by decide, by decide, rfl⟩
theorem witness_GateAndAttentionFollow : ∃ s t : State, step s = .next t := ⟨State.reset, _, rfl⟩
theorem witness_EveryStepKeepsTheSlotAtRest : ∃ s t : State, SlotRests s ∧ step s = .next t := ⟨State.reset, _, by decide, rfl⟩
theorem witness_EveryStepKeepsTheInterlock : ∃ s t : State, SolenoidsInterlocked s ∧ step s = .next t := ⟨State.reset, _, by decide, rfl⟩
theorem witness_EveryStepKeepsTheSpindleOutputs : ∃ s t : State, SpindleOutputsFollow s ∧ step s = .next t :=
  ⟨State.reset, _, by decide, rfl⟩
theorem witness_EveryStepKeepsTheServoInRange : ∃ s t : State, ServoInRange s ∧ step s = .next t := ⟨State.reset, _, by decide, rfl⟩
theorem witness_EveryStepKeepsTheCacheSound : ∃ s t : State, CacheSound s ∧ step s = .next t := ⟨State.reset, _, by decide, rfl⟩
theorem witness_EveryStepKeepsTheLabelSound : ∃ s t : State, LabelSound s ∧ step s = .next t :=
  ⟨{ ready with txe := { labelled resetTxe with labelStatus := .valid, defects := [⟨71735, 191⟩], labelModified := true } }, _, by decide, rfl⟩
theorem witness_EveryStepKeepsPlacesReserved : ∃ s t : State, PlacesReserved s ∧ step s = .next t := ⟨State.reset, _, by decide, rfl⟩

end Sys2Proof.Tests
end

/-! The speed counters in ACQUIRE (R36 to R39): what an overflow and an index pulse leave behind, and the end of a stall window (R38). -/

namespace Sys2Proof.Machine

/-- An event without messages answers the state it stands in, with its outputs. -/
theorem run_done (s : State) : run (done s) = .next (finish s) := rfl

theorem exec_indexPulse_eq_run (s : State) : exec .indexPulse s = run (indexPulseAct s) := rfl

theorem exec_timeBaseOverflow_eq_run (s : State) : exec .timeBaseOverflow s = run (overflowAct s) := rfl

/-- The count from which the time base overflows lies above the band (R36, R39). -/
theorem acquireInBand_last_count : acquireInBand (262143#18).toNat = false := by decide

section Acquire

variable {s : State} (acquire : s.spc.phase = .acquire)
include acquire

/-- An overflow in ACQUIRE ends a stall window and sends no message (R38). -/
theorem exec_timeBaseOverflow_of_acquire :
    exec .timeBaseOverflow s =
      .next (finish { s with spc := { s.spc with windowOpened := false, pulseCounter := 0, inBandRun := 0, timeBase := 0 } }) := by
  have act : overflowAct s =
      done { s with spc := { s.spc with windowOpened := false, pulseCounter := 0, inBandRun := 0, timeBase := 0 } } := by
    simp [overflowAct, acquire, State.modSpc]
  rw [exec_timeBaseOverflow_eq_run, act, run_done]

/-- An index pulse in ACQUIRE with no window open opens one (R37). -/
theorem exec_indexPulse_opens_window (closed : s.spc.windowOpened = false) :
    exec .indexPulse s = .next (finish { s with spc := { s.spc with timeBase := 0, pulseCounter := 4, windowOpened := true } }) := by
  have act : indexPulseAct s = done { s with spc := { s.spc with timeBase := 0, pulseCounter := 4, windowOpened := true } } := by
    simp [indexPulseAct, acquire, closed, State.modSpc]
  rw [exec_indexPulse_eq_run, act, run_done]

/-- A closing index pulse whose window is out of band clears the in-band run and opens the next window (R37, R39). -/
theorem exec_indexPulse_closes_outOfBand (opened : s.spc.windowOpened = true) (last : s.spc.pulseCounter = 1)
    (outOfBand : acquireInBand s.spc.timeBase.toNat = false) :
    exec .indexPulse s = .next (finish { s with spc := { s.spc with timeBase := 0, pulseCounter := 4, inBandRun := 0 } }) := by
  have act : indexPulseAct s = done { s with spc := { s.spc with timeBase := 0, pulseCounter := 4, inBandRun := 0 } } := by
    simp [indexPulseAct, acquireWindowEnd, acquire, opened, last, outOfBand, State.modSpc]
  rw [exec_indexPulse_eq_run, act, run_done]

end Acquire

/-- Settles O14: the overflow leaves ACQUIRE with no window open, so the next index pulse opens one. A closing pulse taken just before
the overflow ends its window out of band, since the last count lies above the band. -/
theorem stallWindowEnds : Obligations.StallWindowEnds := by
  intro s acquire
  have overflow := exec_timeBaseOverflow_of_acquire acquire
  refine ⟨overflow, ?nextPulseOpens, ?closingPulseFirst⟩
  case nextPulseOpens =>
    intro t ht
    obtain rfl : finish _ = t := by simpa [overflow] using ht
    exact exec_indexPulse_opens_window acquire rfl
  case closingPulseFirst =>
    intro opened last full
    have outOfBand : acquireInBand s.spc.timeBase.toNat = false := full ▸ acquireInBand_last_count
    have closing := exec_indexPulse_closes_outOfBand acquire opened last outOfBand
    exact ⟨_, _, _, closing, rfl, rfl, exec_timeBaseOverflow_of_acquire acquire, rfl, exec_indexPulse_opens_window acquire rfl, rfl, rfl⟩

end Sys2Proof.Machine

/-! The offset of a sample (R55): rounding to the nearest, and the quotient of the two bursts. -/

namespace Sys2Proof.Machine

/-! ### Rounding -/

/-- The rounded quotient is odd in the dividend. -/
theorem roundDiv_neg (x : Int) {y : Int} (pos : 0 < y) : roundDiv (-x) y = -roundDiv x y := by
  rcases lt_trichotomy x 0 with neg | rfl | nonneg
  · rw [roundDiv, roundDiv, if_pos (by omega), if_neg (by omega), neg_neg]
  · have half : y / (2 * y) = 0 := Int.ediv_eq_zero_of_lt pos.le (by omega)
    simp [roundDiv, half]
  · rw [roundDiv, roundDiv, if_neg (by omega), if_pos (by omega), neg_neg]

/-- The rounded quotient lies within one half of the exact quotient. -/
theorem roundDiv_near (x : Int) {y : Int} (pos : 0 < y) : |2 * (roundDiv x y * y - x)| ≤ y := by
  have ofNonneg : ∀ z : Int, 0 ≤ z → |2 * (roundDiv z y * y - z)| ≤ y := by
    intro z nonneg
    have low := Int.ediv_mul_le (2 * z + y) (show 2 * y ≠ 0 by omega)
    have high := Int.lt_ediv_add_one_mul_self (2 * z + y) (show 0 < 2 * y by omega)
    rw [roundDiv, if_pos nonneg, abs_le]
    constructor <;> linarith
  rcases le_total 0 x with nonneg | nonpos
  · exact ofNonneg x nonneg
  · have mirrored := ofNonneg (-x) (by omega)
    rwa [roundDiv_neg x pos, ← abs_neg, show -(2 * (-roundDiv x y * y - -x)) = 2 * (roundDiv x y * y - x) by ring] at mirrored

/-- A common positive factor does not change the rounded quotient. -/
theorem roundDiv_mul_left {k : Int} (pos : 0 < k) (x y : Int) : roundDiv (k * x) (k * y) = roundDiv x y := by
  have cancel : ∀ z : Int, (2 * (k * z) + k * y) / (2 * (k * y)) = (2 * z + y) / (2 * y) := fun z => by
    rw [← Int.mul_ediv_mul_of_pos (2 * z + y) (2 * y) pos]
    ring_nf
  simp only [roundDiv, ← mul_neg, cancel, mul_nonneg_iff_of_pos_left pos]

/-- Equal ratios round to the same quotient. -/
theorem roundDiv_eq_of_ratio {x y z w : Int} (hy : 0 < y) (hw : 0 < w) (ratio : x * w = z * y) :
    roundDiv x y = roundDiv z w :=
  calc roundDiv x y = roundDiv (w * x) (w * y) := (roundDiv_mul_left hw x y).symm
    _ = roundDiv (y * z) (y * w) := by rw [mul_comm w x, ratio, mul_comm z y, mul_comm w y]
    _ = roundDiv z w := roundDiv_mul_left hy z w

/-! ### The quotient of the bursts -/

/-- The offset before the clamp (R55). -/
def burstQuotient (a b : Nat) : Int := roundDiv (128 * ((a : Int) - b)) ((a : Int) + b)

theorem offsetOf_eq_clamp (r : ServoRecord) : offsetOf r = clamp (-128) 127 (burstQuotient r.burstA r.burstB) := rfl

/-- Bursts in the same ratio have the same quotient. -/
theorem burstQuotient_eq_of_ratio {a b c d : Nat} (hab : 0 < a + b) (hcd : 0 < c + d) (ratio : a * d = c * b) :
    burstQuotient a b = burstQuotient c d := by
  have ratio' : (a : Int) * d = c * b := by exact_mod_cast ratio
  refine roundDiv_eq_of_ratio (by omega) (by omega) ?_
  linear_combination 256 * ratio'

/-- Exchanging the bursts mirrors the quotient about the track's centre. -/
theorem burstQuotient_swap {a b : Nat} (sum : 0 < a + b) : burstQuotient b a = -burstQuotient a b := by
  rw [burstQuotient, burstQuotient, ← roundDiv_neg _ (by omega), add_comm (b : Int) a]
  ring_nf

/-- Without burst B the quotient is +128. -/
theorem burstQuotient_zero_right {a : Nat} (sum : 0 < a) : burstQuotient a 0 = 128 := by
  calc burstQuotient a 0 = burstQuotient 1 0 := burstQuotient_eq_of_ratio (by omega) (by omega) (by omega)
    _ = 128 := by decide

/-- An exact half needs a burst sum of 256 with an odd difference; sum and difference are both even or both odd. -/
theorem odd_mul_sum_ne_difference {a b : Nat} {m : Int} (odd : Odd m) (sum : 0 < a + b) (top : a + b < 512) :
    m * ((a : Int) + b) ≠ 256 * ((a : Int) - b) := by
  intro half
  have coprime : IsCoprime (256 : Int) m := (Int.isCoprime_two_left.mpr odd).pow_left (m := 8)
  obtain ⟨k, hk⟩ : (256 : Int) ∣ (a : Int) + b := coprime.dvd_of_dvd_mul_left ⟨_, half⟩
  obtain rfl : k = 1 := by omega
  obtain ⟨j, rfl⟩ := odd
  rw [hk] at half
  omega

section Bursts

variable {a b : Nat} (sum : 0 < a + b) (top : a + b < 512)
include sum top

/-- The quotient lies within less than one half of the exact value: the rounding never meets an exact half (R55). -/
theorem burstQuotient_near : |2 * (burstQuotient a b * ((a : Int) + b) - 128 * ((a : Int) - b))| < (a : Int) + b := by
  refine lt_of_le_of_ne (roundDiv_near _ (by omega)) fun half => ?_
  rcases eq_or_eq_neg_of_abs_eq half with above | below
  · exact odd_mul_sum_ne_difference (m := 2 * burstQuotient a b - 1) ⟨burstQuotient a b - 1, by ring⟩ sum top (by linarith)
  · exact odd_mul_sum_ne_difference (m := 2 * burstQuotient a b + 1) ⟨burstQuotient a b, rfl⟩ sum top (by linarith)

theorem burstQuotient_le : burstQuotient a b ≤ 128 := by
  have near := (abs_lt.mp (burstQuotient_near sum top)).2
  by_contra! above
  have large : 129 * ((a : Int) + b) ≤ burstQuotient a b * ((a : Int) + b) := mul_le_mul_of_nonneg_right above (by omega)
  omega

/-- The quotient reaches +128 only without burst B: any burst B leaves more than one half to +128, since the sum is below 512. -/
theorem burstQuotient_eq_top_iff : burstQuotient a b = 128 ↔ b = 0 := by
  constructor
  · intro full
    have near := (abs_lt.mp (burstQuotient_near sum top)).2
    rw [full] at near
    omega
  · rintro rfl
    exact burstQuotient_zero_right sum

theorem le_burstQuotient : -128 ≤ burstQuotient a b := by
  have mirrored := burstQuotient_le (a := b) (b := a) (by omega) (by omega)
  rw [burstQuotient_swap sum] at mirrored
  omega

theorem burstQuotient_eq_bottom_iff : burstQuotient a b = -128 ↔ a = 0 := by
  rw [← burstQuotient_eq_top_iff (a := b) (b := a) (by omega) (by omega), burstQuotient_swap sum, neg_eq_iff_eq_neg]

end Bursts

/-- On the range of the quotients the clamp changes +128 alone (R55). -/
theorem clamp_offset_eq {q : Int} (low : -128 ≤ q) (high : q ≤ 128) : clamp (-128) 127 q = if q = 128 then 127 else q := by
  rw [clamp, if_neg (by omega)]
  split <;> split <;> omega

/-- Settles O49: the rounded quotient lies within less than one half of the exact value, from which its range and its two ends follow;
a common factor of the bursts leaves it as it is. -/
theorem offsetFollowsTheRatio : Obligations.OffsetFollowsTheRatio := by
  intro a b c d ha hb hc hd weakest weakest' q r r' hrA hrB hrA' hrB'
  subst hrA hrB hrA' hrB'
  have sum : 0 < r.burstA + r.burstB := by omega
  have top : r.burstA + r.burstB < 512 := by omega
  have low : -128 ≤ q := le_burstQuotient sum top
  have high : q ≤ 128 := burstQuotient_le sum top
  have clamped : offsetOf r = if q = 128 then 127 else q := clamp_offset_eq low high
  refine ⟨⟨low, high⟩, burstQuotient_eq_top_iff sum top, burstQuotient_eq_bottom_iff sum top, clamped, ?range, ?noHalf, ?ratio⟩
  case range =>
    rw [clamped]
    split <;> omega
  case noHalf =>
    have near := burstQuotient_near sum top
    rw [Int.abs_eq_natAbs] at near
    exact_mod_cast near
  case ratio =>
    intro ratio
    rw [offsetOf_eq_clamp, offsetOf_eq_clamp, burstQuotient_eq_of_ratio sum (by omega) ratio]

end Sys2Proof.Machine

/-! What every operation keeps: the seven invariants of the step lemmas, block by block. `Keeps s t` says that each invariant of `s` is one of
`t`; a lemma `Keeps.then_f` adds the operation `f` to a course that has kept them so far, so that the proof for an operation follows its text. -/

namespace Sys2Proof.Machine

-- One declaration after another: a thread for each of so many proofs is more than the sandbox gives.
set_option Elab.async false

/-- The speed counters stand as a new ACQUIRE phase finds them, or do not count (R36). -/
abbrev CountersRest (p : Spc) : Prop :=
  p.phase = .idle ∨ (p.phase = .acquire ∧ p.windowOpened = false ∧ p.timeBase = 0 ∧ p.pulseCounter = 0 ∧ p.inBandRun = 0)

/-- Whatever invariant the first state has, the second has. A `calm` course counts no pulse and no time: it leaves counters at rest so. -/
structure Keeps (calm : Prop) (s t : State) : Prop where
  counters : calm → CountersRest s.spc → CountersRest t.spc
  interlock : SolenoidsInterlocked s → SolenoidsInterlocked t
  spindle : SpindleOutputsFollow s → SpindleOutputsFollow t
  servo : ServoInRange s → ServoInRange t
  slot : SlotRests s → SlotRests t
  label : LabelSound s → LabelSound t
  cache : CacheSound s → CacheSound t
  places : PlacesReserved s → PlacesReserved t

variable {calm : Prop}

theorem Keeps.refl (s : State) : Keeps calm s s := ⟨fun _ => id, id, id, id, id, id, id, id⟩

theorem Keeps.trans {s t u : State} (h : Keeps calm s t) (k : Keeps calm t u) : Keeps calm s u :=
  ⟨fun now => k.counters now ∘ h.counters now, k.interlock ∘ h.interlock, k.spindle ∘ h.spindle, k.servo ∘ h.servo, k.slot ∘ h.slot,
    k.label ∘ h.label, k.cache ∘ h.cache, k.places ∘ h.places⟩

/-! ### A change of one block touches the invariants of that block alone -/

section Blocks

variable {s₀ s : State} (h : Keeps calm s₀ s)
include h

theorem Keeps.then_csq (x : Csq) (interlock : SolenoidsInterlocked s → SolenoidsInterlocked { s with csq := x } := by exact id) :
    Keeps calm s₀ { s with csq := x } := h.trans ⟨fun _ => id, interlock, id, id, id, id, id, id⟩

theorem Keeps.then_spc (x : Spc) (counters : calm → CountersRest x) (spindle : SpindleOutputsFollow s → SpindleOutputsFollow { s with spc := x }) :
    Keeps calm s₀ { s with spc := x } := h.trans ⟨fun now _ => counters now, id, spindle, id, id, id, id, id⟩

theorem Keeps.then_svc (x : Svc) (servo : ServoInRange s → ServoInRange { s with svc := x } := by exact id) :
    Keeps calm s₀ { s with svc := x } := h.trans ⟨fun _ => id, id, id, servo, id, id, id, id⟩

theorem Keeps.then_txe (x : Txe) (slot : SlotRests s → SlotRests { s with txe := x } := by exact id)
    (label : LabelSound s → LabelSound { s with txe := x } := by exact id) : Keeps calm s₀ { s with txe := x } :=
  h.trans ⟨fun _ => id, id, id, id, slot, label, id, id⟩

theorem Keeps.then_sgc (x : Sgc) (cache : CacheSound s → CacheSound { s with sgc := x } := by exact id) :
    Keeps calm s₀ { s with sgc := x } := h.trans ⟨fun _ => id, id, id, id, id, id, cache, id⟩

theorem Keeps.then_smn (x : Smn) : Keeps calm s₀ { s with smn := x } := h.trans ⟨fun _ => id, id, id, id, id, id, id, id⟩

theorem Keeps.then_pins (x : Pins) : Keeps calm s₀ { s with pins := x } := h.trans ⟨fun _ => id, id, id, id, id, id, id, id⟩

theorem Keeps.then_lif (x : Lif) (places : PlacesReserved s → PlacesReserved { s with lif := x } := by exact id) :
    Keeps calm s₀ { s with lif := x } := h.trans ⟨fun _ => id, id, id, id, id, id, id, places⟩

end Blocks

/-- Two acts one after the other keep what each of them keeps. -/
theorem Keeps.andThen {s₀ : State} {a : Act} {f : State → Act} (ha : Keeps calm s₀ a.state) (hf : ∀ s, Keeps calm s₀ s → Keeps calm s₀ (f s).state) :
    Keeps calm s₀ (a.andThen f).state := hf _ ha

end Sys2Proof.Machine

/-! The segment records under the cache's operations (R140 to R142). -/

namespace Sys2Proof.Machine

set_option Elab.async false

/-! ### Offsets and the recency list -/

theorem mem_insertNat {o x : Nat} {l : List Nat} : x ∈ insertNat o l ↔ x = o ∨ x ∈ l := by
  induction l with
  | nil => simp [insertNat]
  | cons y t ih =>
    unfold insertNat
    split
    · simp
    · split
      · simp [‹o = y›]
      · simp only [List.mem_cons, ih]
        tauto

theorem insertNat_ascending {o : Nat} {l : List Nat} (h : l.Pairwise (· < ·)) : (insertNat o l).Pairwise (· < ·) := by
  induction l with
  | nil => simp [insertNat]
  | cons y t ih =>
    obtain ⟨above, rest⟩ := List.pairwise_cons.mp h
    unfold insertNat
    split
    · refine List.pairwise_cons.mpr ⟨fun x hx => ?_, h⟩
      rcases List.mem_cons.mp hx with rfl | hx
      · assumption
      · exact Nat.lt_trans ‹o < y› (above x hx)
    · split
      · exact h
      · refine List.pairwise_cons.mpr ⟨fun x hx => ?_, ih rest⟩
        rcases mem_insertNat.mp hx with rfl | hx
        · omega
        · exact above x hx

theorem mem_eraseNat {o x : Nat} {l : List Nat} : x ∈ eraseNat o l ↔ x ∈ l ∧ x ≠ o := by simp [eraseNat]

theorem eraseNat_eq_erase {o : Nat} {l : List Nat} (h : l.Nodup) : eraseNat o l = l.erase o := (h.erase_eq_filter o).symm

theorem toFront_perm {i : Nat} {l : List Nat} (h : l.Nodup) (hi : i ∈ l) : (toFront i l).Perm l := by
  rw [toFront, eraseNat_eq_erase h]
  exact (List.perm_cons_erase hi).symm

theorem toBack_perm {i : Nat} {l : List Nat} (h : l.Nodup) (hi : i ∈ l) : (toBack i l).Perm l :=
  List.perm_append_singleton i (eraseNat i l) |>.trans (toFront_perm h hi)

theorem foldl_toBack_perm {is l : List Nat} (h : l.Nodup) (hi : ∀ i ∈ is, i ∈ l) : (is.foldl (fun r i => toBack i r) l).Perm l := by
  induction is generalizing l with
  | nil => exact .refl l
  | cons i t ih =>
    have perm := toBack_perm h (hi i (by simp))
    exact (ih (perm.nodup_iff.mpr h) fun j hj => perm.mem_iff.mpr (hi j (by simp [hj]))).trans perm

/-! ### One record -/

theorem SegmentSound.insertValid {g : Segment} (h : SegmentSound g) (n : Nat) : SegmentSound { g with valid := insertNat (n % 16) g.valid } := by
  obtain ⟨base, valid, dirty, small, sub⟩ := h
  refine ⟨base, insertNat_ascending valid, dirty, fun o ho => ?_, fun o ho => mem_insertNat.mpr (.inr (sub o ho))⟩
  rcases mem_insertNat.mp ho with rfl | ho
  · exact Nat.mod_lt n (by decide)
  · exact small o ho

theorem SegmentSound.insertDirty {g : Segment} (h : SegmentSound g) (n : Nat) :
    SegmentSound { g with valid := insertNat (n % 16) g.valid, dirty := insertNat (n % 16) g.dirty } := by
  obtain ⟨base, valid, dirty, small, sub⟩ := h.insertValid n
  refine ⟨base, valid, insertNat_ascending dirty, small, fun o ho => ?_⟩
  rcases mem_insertNat.mp ho with rfl | ho
  · exact mem_insertNat.mpr (.inl rfl)
  · exact sub o ho

theorem SegmentSound.filter {g : Segment} (h : SegmentSound g) (p q : Nat → Bool) (hpq : ∀ o ∈ g.dirty, q o = true → p o = true) :
    SegmentSound { g with valid := g.valid.filter p, dirty := g.dirty.filter q } := by
  obtain ⟨base, valid, dirty, small, sub⟩ := h
  refine ⟨base, valid.filter p, dirty.filter q, fun o ho => small o (List.mem_of_mem_filter ho), fun o ho => ?_⟩
  obtain ⟨mem, hq⟩ := List.mem_filter.mp ho
  exact List.mem_filter.mpr ⟨sub o mem, hpq o mem hq⟩

theorem segmentSound_empty (b : Nat) (a : Attachment) (hb : b % 16 = 0) :
    SegmentSound { base := b, valid := [], dirty := [], attachment := a } := by simp [SegmentSound, hb]

theorem windowBase_mod (n : Nat) : windowBase n % 16 = 0 := by simp [windowBase]

/-! ### All records -/

theorem segmentAt_eq_getElem {s : State} {i : Nat} (hi : i < s.sgc.segments.length) : segmentAt s i = s.sgc.segments[i] := by
  simp [segmentAt, hi]

theorem findWindow_some {b i : Nat} {s : State} (h : findWindow b s = some i) :
    i < s.sgc.segments.length ∧ (segmentAt s i).base = b ∧ (segmentAt s i).holdsWindow = true := by
  obtain ⟨hi, hp, -⟩ := List.findIdx?_eq_some_iff_getElem.mp h
  rw [segmentAt_eq_getElem hi]
  simpa [hi] using hp

theorem findWindow_none {b : Nat} {s : State} (h : findWindow b s = none) : ∀ g ∈ s.sgc.segments, g.holdsWindow = true → g.base ≠ b := by
  intro g mem holds same
  simpa [same, holds] using List.findIdx?_eq_none_iff.mp h g mem

theorem leastRecent_some {p : Segment → Bool} {i : Nat} {s : State} (h : leastRecent p s = some i) :
    i ∈ s.sgc.recency ∧ p (segmentAt s i) = true := by
  have holds : p (segmentAt s i) = true := List.find?_some (p := fun i => p (segmentAt s i)) h
  exact ⟨List.mem_reverse.mp (List.mem_of_find?_eq_some h), holds⟩

theorem candidate_mem {i : Nat} {s : State} (h : candidate s = some i) : i ∈ s.sgc.recency := by
  unfold candidate at h
  split at h
  · obtain rfl := Option.some.inj h
    exact (leastRecent_some ‹_›).1
  · exact (leastRecent_some h).1

section Sound

variable {s : State} (h : CacheSound s)
include h

theorem CacheSound.nodup : s.sgc.recency.Nodup := h.2.2.2.1.nodup_iff.mpr (by decide)

theorem CacheSound.mem_recency {i : Nat} : i ∈ s.sgc.recency ↔ i < s.sgc.segments.length := by
  obtain ⟨-, -, len, perm, -⟩ := h
  rw [perm.mem_iff, len]
  simp only [List.mem_cons, List.not_mem_nil, or_false]
  omega

/-- A record may be changed into a sound one that holds no window which another record holds. -/
theorem CacheSound.then_modSegment {i : Nat} {f : Segment → Segment} (sound : SegmentSound (segmentAt s i) → SegmentSound (f (segmentAt s i)))
    (apart : (f (segmentAt s i)).holdsWindow = true → ∀ j (hj : j < s.sgc.segments.length), j ≠ i →
      (s.sgc.segments[j]).holdsWindow = true → (s.sgc.segments[j]).base ≠ (f (segmentAt s i)).base) :
    CacheSound (modSegment i f s) := by
  obtain ⟨all, distinct, rest⟩ := h
  refine ⟨?_, ?_, by simpa [modSegment] using rest⟩
  · intro g hg
    obtain ⟨j, hj, rfl⟩ := List.mem_iff_getElem.mp hg
    simp only [modSegment, modSgc_sgc, List.length_modify] at hj
    simp only [modSegment, modSgc_sgc, List.getElem_modify]
    split
    · obtain rfl := ‹i = j›
      rw [segmentAt_eq_getElem hj] at sound
      exact sound (all _ (List.getElem_mem hj))
    · exact all _ (List.getElem_mem hj)
  · simp only [List.pairwise_iff_getElem, modSegment, modSgc_sgc, List.length_modify, List.getElem_modify] at distinct ⊢
    intro j k hj hk less
    rcases eq_or_ne i j with rfl | ij
    · rw [if_pos rfl, if_neg (by omega)]
      rw [segmentAt_eq_getElem hj] at apart
      exact fun holds holds' => (apart holds k hk (by omega) holds').symm
    · rw [if_neg ij]
      rcases eq_or_ne i k with rfl | ik
      · rw [if_pos rfl]
        rw [segmentAt_eq_getElem hk] at apart
        exact fun holds holds' => apart holds' j hj (by omega) holds
      · rw [if_neg ik]
        exact distinct j k hj hk less

/-- A record that keeps its base, and holds a window only if it held one, stays apart from the others. -/
theorem CacheSound.then_modSegment_same {i : Nat} {f : Segment → Segment} (sound : SegmentSound (segmentAt s i) → SegmentSound (f (segmentAt s i)))
    (base : (f (segmentAt s i)).base = (segmentAt s i).base)
    (held : (f (segmentAt s i)).holdsWindow = true → (segmentAt s i).holdsWindow = true) : CacheSound (modSegment i f s) := by
  refine h.then_modSegment sound fun holds j hj ne holds' => ?_
  have distinct := List.pairwise_iff_getElem.mp h.2.1
  rw [base]
  rcases lt_or_ge i s.sgc.segments.length with hi | out
  · have held := held holds
    rw [segmentAt_eq_getElem hi] at held ⊢
    rcases Nat.lt_or_gt_of_ne ne with less | more
    · exact distinct j i hj hi less holds' held
    · exact (distinct i j hi hj more held holds').symm
  · have held := held holds
    simp [segmentAt, List.getD_eq_getElem?_getD, out, freeSegment, Segment.holdsWindow] at held

theorem CacheSound.then_makeRecent {i : Nat} (hi : i < s.sgc.segments.length) : CacheSound (makeRecent i s) := by
  have perm := toFront_perm h.nodup (h.mem_recency.mpr hi)
  obtain ⟨all, distinct, len, recent, wf⟩ := h
  exact ⟨all, distinct, len, perm.trans recent, wf⟩

theorem CacheSound.then_makeStale {i : Nat} (hi : i < s.sgc.segments.length) : CacheSound (makeStale i s) := by
  have perm := toBack_perm h.nodup (h.mem_recency.mpr hi)
  obtain ⟨all, distinct, len, recent, wf⟩ := h
  exact ⟨all, distinct, len, perm.trans recent, wf⟩

/-- Every record may be changed into a sound one with the same base that holds a window only if it held one. -/
theorem CacheSound.then_mapSegments {f : Segment → Segment} {g : Sgc} (sound : ∀ x, SegmentSound x → SegmentSound (f x))
    (base : ∀ x, (f x).base = x.base) (held : ∀ x, (f x).holdsWindow = true → x.holdsWindow = true)
    (segments : g.segments = s.sgc.segments.map f) (recency : g.recency.Perm s.sgc.recency) (buffer : g.buffer = s.sgc.buffer) :
    CacheSound { s with sgc := g } := by
  obtain ⟨all, distinct, len, recent, wf⟩ := h
  refine ⟨?_, ?_, by simp [segments, len], recency.trans recent, by rw [← wf, ← buffer]⟩
  · rw [segments]
    exact List.forall_mem_map.mpr fun x hx => sound x (all x hx)
  · rw [segments, List.pairwise_map]
    exact distinct.imp fun apart holds holds' => by
      rw [base, base]
      exact apart (held _ holds) (held _ holds')

theorem CacheSound.then_dropWantedIfClean : CacheSound (dropWantedIfClean s) := by
  unfold dropWantedIfClean
  split
  · exact h
  · exact h

theorem CacheSound.then_dropBlock (i n : Nat) : CacheSound (dropBlock i n s) := by
  refine CacheSound.then_dropWantedIfClean (h.then_modSegment_same (fun sound => sound.filter _ _ fun _ _ => id) rfl fun holds => ?_)
  simp only [Segment.holdsWindow, Bool.or_eq_true, Bool.not_eq_true', List.isEmpty_eq_false_iff] at holds ⊢
  exact holds.imp_left fun ne none => ne (by simp [none, eraseNat])

theorem CacheSound.then_clearDirty (i n : Nat) : CacheSound (clearDirty i n s) := by
  refine CacheSound.then_dropWantedIfClean (h.then_modSegment_same (fun sound => ?_) rfl id)
  simpa [List.filter_true, eraseNat] using sound.filter (fun _ => true) (fun x => x != n % 16) fun _ _ _ => rfl

theorem CacheSound.then_addValid {i n : Nat} (holds : (segmentAt s i).holdsWindow = true) : CacheSound (addValid i n s) :=
  h.then_modSegment_same (fun sound => sound.insertValid n) rfl fun _ => holds

theorem CacheSound.then_addDirty {i n : Nat} (holds : (segmentAt s i).holdsWindow = true) : CacheSound (addDirty i n s) :=
  h.then_modSegment_same (fun sound => sound.insertDirty n) rfl fun _ => holds

theorem CacheSound.then_attach {a : Attachment} {i : Nat} (holds : a = .free ∨ (segmentAt s i).holdsWindow = true) : CacheSound (attach a i s) := by
  refine h.then_modSegment_same id rfl fun now => ?_
  rcases holds with rfl | holds
  · simp only [Segment.holdsWindow, bne_self_eq_false, Bool.or_false] at now ⊢
    simp [now]
  · exact holds

theorem CacheSound.then_attachFlush (i : Nat) : CacheSound (attachFlush i s) := by
  refine h.then_modSegment_same (fun sound => ?_) ?_ fun now => ?_
  · split <;> exact sound
  · split <;> rfl
  · split at now <;> assumption

theorem CacheSound.then_allocate {i n : Nat} (a : Attachment) (hi : i < s.sgc.segments.length) (fresh : findWindow (windowBase n) s = none) :
    CacheSound (allocate i (windowBase n) a s) := by
  refine CacheSound.then_makeRecent (h.then_modSegment (fun _ => segmentSound_empty _ _ (windowBase_mod n)) ?_) ?_
  · exact fun _ j hj _ holds => findWindow_none fresh _ (List.getElem_mem hj) holds
  · simpa [modSegment] using hi

theorem CacheSound.then_freeAll : CacheSound (freeAll s) := by
  refine CacheSound.then_dropWantedIfClean (h.then_mapSegments (fun x sound => segmentSound_empty x.base .free sound.1) (fun _ => rfl) ?_ rfl ?_ rfl)
  · simp [Segment.holdsWindow]
  · exact foldl_toBack_perm h.nodup fun i hi => h.mem_recency.mpr (List.mem_range.mp hi)

theorem CacheSound.then_releaseAll : CacheSound (releaseAll s) := by
  refine h.then_mapSegments (f := fun x => { x with attachment := .free }) (fun _ => id) (fun _ => rfl) (fun x now => ?_) rfl (.refl _) rfl
  simp only [Segment.holdsWindow, bne_self_eq_false, Bool.or_false] at now ⊢
  simp [now]

theorem CacheSound.then_releaseFlushed : CacheSound (releaseFlushed s) := by
  refine h.then_mapSegments (fun x sound => ?_) (fun x => ?_) (fun x now => ?_) rfl (.refl _) rfl
  · split <;> exact sound
  · split <;> rfl
  · split at now
    · simp_all [Segment.holdsWindow]
    · exact now

/-- The blocks given up leave both sets of every record (R157). -/
theorem CacheSound.then_dropDirty {n : Nat} : CacheSound (s.modSgc fun g =>
    { g with segments := g.segments.map Segment.dropDirty, lostBlocks := satAdd 65535 g.lostBlocks n, flushWanted := false }) := by
  refine h.then_mapSegments (f := Segment.dropDirty) (fun x sound => ?_) (fun _ => rfl) (fun x now => ?_) rfl (.refl _) rfl
  · simpa [Segment.dropDirty] using sound.filter (fun o => !x.dirty.contains o) (fun _ => false) fun _ _ no => by cases no
  · simp only [Segment.holdsWindow, Segment.dropDirty, Bool.or_eq_true, Bool.not_eq_true', List.isEmpty_eq_false_iff] at now ⊢
    exact now.imp_left fun ne none => ne (by simp [none])

theorem CacheSound.then_storeBlock (i n : Nat) (data : List Byte) : CacheSound (storeBlock i n data s) := by
  obtain ⟨all, distinct, len, recent, wf⟩ := h
  exact ⟨all, distinct, len, recent, storeBlock_wf i n data s wf⟩

end Sound

/-! ### What a segment asked for can be (R142) -/

theorem segmentAt_modSegment {s : State} {i : Nat} {f : Segment → Segment} (hi : i < s.sgc.segments.length) :
    segmentAt (modSegment i f s) i = f (segmentAt s i) := by
  simp [segmentAt, modSegment, hi]

theorem askSegment_sound {n i : Nat} {a : Attachment} {reading : Bool} {s t : State} (asked : askSegment n a reading s = (t, .given i))
    (sound : CacheSound s) : CacheSound t := by
  unfold askSegment at asked
  split at asked
  · rename_i k found
    obtain ⟨hk, -, holds⟩ := findWindow_some found
    have attached : CacheSound (attach a k s) := sound.then_attach (.inr holds)
    split at asked
    · cases asked
      exact sound
    · cases asked
      split
      · exact attached.then_makeRecent (by simpa [attach, modSegment] using hk)
      · exact attached
  · rename_i fresh
    split at asked
    · cases asked
      exact sound.then_allocate a (sound.mem_recency.mp (candidate_mem ‹_›)) fresh
    · split at asked <;> cases asked

/-- The segment that askSegment gives has the attachment asked for. -/
theorem askSegment_given {n i : Nat} {a : Attachment} {reading : Bool} {s t : State} (asked : askSegment n a reading s = (t, .given i))
    (sound : CacheSound t) : i < t.sgc.segments.length ∧ (segmentAt t i).attachment = a := by
  have attached : ∀ {f : Segment → Segment} {u : State}, (∀ g, (f g).attachment = a) → i < s.sgc.segments.length →
      u.sgc.segments = s.sgc.segments.modify i f → i < u.sgc.segments.length ∧ (segmentAt u i).attachment = a := by
    intro f u sets hi segments
    simp [segmentAt, segments, hi, sets]
  unfold askSegment at asked
  split at asked
  · rename_i k found
    obtain ⟨hk, -, -⟩ := findWindow_some found
    split at asked
    · cases asked
      exact ⟨hk, ‹_›⟩
    · cases asked
      refine attached (f := fun g => { g with attachment := a }) (fun _ => rfl) hk ?_
      split <;> rfl
  · split at asked
    · cases asked
      have recent := sound.mem_recency.mp (List.mem_cons_self : i ∈ toFront i s.sgc.recency)
      exact attached (fun _ => rfl) (by simpa [allocate, makeRecent, modSegment] using recent) rfl
    · split at asked <;> cases asked

/-- When askSegment gives no segment nothing has changed. -/
theorem askSegment_other {n : Nat} {a : Attachment} {reading : Bool} {s s' : State} {x : SegmentAnswer} (h : askSegment n a reading s = (s', x))
    (none : ∀ i, x ≠ .given i) : s' = s := by
  unfold askSegment at h
  split at h
  · split at h <;> cases h <;> exact absurd rfl (none _)
  · split at h
    · cases h
      exact absurd rfl (none _)
    · split at h <;> cases h <;> rfl

end Sys2Proof.Machine

/-! What the named operations over the blocks' records keep: sequencer, spindle, servo, job slot, cache and link. -/

namespace Sys2Proof.Machine

set_option Elab.async false

variable {calm : Prop}

/-- The lock is engaged wherever the solenoids are interlocked (R7). -/
def Locked (s : State) : Prop := SolenoidsInterlocked s → s.csq.lockEngaged = true

/-- The slot holds a job, or a sector operation, which only a job has (R123, R127). -/
def Busy (s : State) : Prop := s.txe.job ≠ none ∨ s.txe.op ≠ none

/-- The lifecycle states in which the lock holds the cartridge (R7). -/
def Lifecycle.locked : Lifecycle → Bool
  | .empty | .seating | .eject | .jammed => false
  | .stopped | .spinUp | .headLoad | .labelRead | .calibrate | .ready | .flush | .unload | .spinDown => true

theorem Locked.of_lifecycle {s : State} {l : Lifecycle} (now : s.csq.lifecycle = l) (held : l.locked = true := by rfl) : Locked s := by
  intro interlock
  by_contra open_
  have free := interlock.1 (by simpa using open_)
  rw [now] at free
  rcases free with rfl | rfl | rfl | rfl <;> cases held

theorem Locked.of_csq {s t : State} (h : Locked s) (same : t.csq = s.csq) : Locked t := by
  unfold Locked SolenoidsInterlocked
  rw [same]
  exact h

theorem Busy.job {s : State} (busy : Busy s) (rests : SlotRests s) : s.txe.job ≠ none :=
  busy.elim id fun op none => op (rests none).1

theorem Busy.of_op {s : State} {o : SectorOp} (h : s.txe.op = some o) : Busy s := .inr (by simp [h])

theorem Busy.of_job {s : State} {j : Job} (h : s.txe.job = some j) : Busy s := .inl (by simp [h])

theorem Busy.of_jobWork {s : State} {w : Work} (h : jobWork s = some w) : Busy s := .inl fun none => by simp [jobWork, none] at h

theorem Busy.modJob {s : State} (busy : Busy s) (f : Job → Job) : Busy (modJob f s) := busy.imp_left fun job => by simpa [Machine.modJob] using job

section

variable {s₀ s : State} (h : Keeps calm s₀ s)
include h

/-! ### The sequencer's record -/

theorem Keeps.then_enter (l : Lifecycle) (locked : l.locked = true → Locked s) : Keeps calm s₀ (enter l s) := by
  refine Keeps.then_sgc (Keeps.then_csq h _ fun interlock => ⟨fun free => ?_, fun pulse => ?_⟩) _ id
  · cases l
    case empty => exact .inl rfl
    case seating => exact .inr (.inl rfl)
    case eject => exact .inr (.inr (.inl rfl))
    case jammed => exact .inr (.inr (.inr rfl))
    all_goals exact absurd (locked rfl interlock) (by simpa using free)
  · by_cases eject : l = .eject
    · subst eject
      exact ⟨rfl, (interlock.2 pulse).2⟩
    · simp [eject] at pulse

theorem Keeps.then_restartStandby : Keeps calm s₀ (restartStandby s) := by
  unfold restartStandby
  split
  · exact h.then_csq _
  · exact h

theorem Keeps.then_startFlushTimer : Keeps calm s₀ (startFlushTimer s) := by
  unfold startFlushTimer
  split
  · exact h.then_sgc _
  · exact h

theorem Keeps.then_pulseRequest (eject : s.csq.lifecycle = .eject) : Keeps calm s₀ (pulseRequest s) := by
  refine h.then_csq _ fun interlock => ⟨interlock.1, fun pulse => ⟨eject, ?_⟩⟩
  cases engaged : s.csq.lockEngaged with
  | false => rfl
  | true => simp [engaged] at pulse

theorem Keeps.then_pulseStop : Keeps calm s₀ (pulseStop s) := h.then_csq _ fun interlock => ⟨interlock.1, fun pulse => nomatch pulse⟩

theorem Keeps.then_firePulse (eject : s.csq.lifecycle = .eject) : Keeps calm s₀ (firePulse s) :=
  (h.then_csq { s.csq with ejectPulses := s.csq.ejectPulses + 1 }).then_pulseRequest eject

/-- A round releases the lock and enters EJECT as one (R18). -/
theorem Keeps.then_startRound (r : EjectRound) : Keeps calm s₀ (startRound r s) :=
  ((h.then_csq
      { s.csq with lockEngaged := false, ejectPulses := 0, ejectRound := r, lifecycle := .eject, debounce := none, standby := none, grace := none }
      fun _ => ⟨fun _ => .inr (.inr (.inl rfl)), fun _ => ⟨rfl, rfl⟩⟩).then_sgc
    { s.sgc with flushTimer := none, heldDeparture := false }).then_firePulse rfl

theorem Keeps.then_pulseEndAct : Keeps calm s₀ (pulseEndAct s) := by
  unfold pulseEndAct
  split
  · exact h.then_pulseStop.then_csq _
  · exact h

theorem Keeps.then_askEject (button : Bool) : Keeps calm s₀ (askEject button s) := h.then_csq _

theorem Keeps.then_clearEject : Keeps calm s₀ (clearEject s) := h.then_csq _

theorem Keeps.then_setReason (r : StopReason) : Keeps calm s₀ (setReason r s) := h.then_csq _

theorem Keeps.then_faultStop : Keeps calm s₀ (faultStop s) := h.then_csq _

theorem Keeps.then_dropCarried : Keeps calm s₀ (dropCarried s) := h.then_csq _

theorem Keeps.then_clearCauses : Keeps calm s₀ (clearCauses s) := h.then_csq _

theorem Keeps.then_joinDeparture (c : Cause) : Keeps calm s₀ (joinDeparture c s) := by
  refine Keeps.then_csq ?_ _
  split
  · exact h.then_askEject _
  · exact h

theorem Keeps.then_carry (k : OrderKind) : Keeps calm s₀ (carry k s) := h.then_csq _

/-! ### The link's record -/

theorem Keeps.then_latch (n : Notice) : Keeps calm s₀ (latch n s) := h.then_lif _

theorem Keeps.then_answerButton : Keeps calm s₀ (answerButton s) := by
  unfold answerButton
  split
  · exact h.then_latch _
  · exact h

theorem Keeps.then_latchInserted : Keeps calm s₀ (latchInserted s) := by
  unfold latchInserted
  split
  · exact (h.then_csq _).then_latch _
  · exact h

/-- A change of the executing order's own fields holds no other place. -/
theorem Keeps.then_mapExecuting (f : Executing → Executing) :
    Keeps calm s₀ (s.modLif fun l => { l with executing := l.executing.map f }) :=
  h.then_lif _ fun places => by simpa [PlacesReserved, placesHeld] using places

theorem Keeps.then_setStage (st : Stage) : Keeps calm s₀ (setStage st s) := h.then_mapExecuting _

theorem Keeps.then_setBlocks (n : Nat) : Keeps calm s₀ (setBlocks n s) := h.then_mapExecuting _

theorem Keeps.then_waitAgain : Keeps calm s₀ (waitAgain s) := h.then_mapExecuting _

theorem Keeps.then_makeRemnant : Keeps calm s₀ (makeRemnant s) := h.then_mapExecuting _

theorem Keeps.then_attachLeaver : Keeps calm s₀ (attachLeaver s) := by
  unfold attachLeaver
  split
  · exact h.then_setStage _
  · exact h

theorem Keeps.then_sendFrame (e : Exchange) (bytes : List Byte) : Keeps calm s₀ (sendFrame e bytes s) := h.then_lif _

theorem Keeps.then_linkTake : Keeps calm s₀ (linkTake s) := h.then_sgc _

theorem Keeps.then_linkRelease : Keeps calm s₀ (linkRelease s) := h.then_sgc _

theorem Keeps.then_answer (hand : Byte) : Keeps calm s₀ (answer hand s) := h.then_linkRelease.then_lif _

/-- An order that ends gives its place to its report (R176). -/
theorem Keeps.then_endOrder (o : Outcome) (d : Detail) (n : Nat) : Keeps calm s₀ (endOrder o d n s).state := by
  unfold endOrder
  split
  · exact h
  · rename_i e executing
    rw [send_state]
    refine h.then_linkRelease.then_lif _ ?_
    rintro ⟨queue, held⟩
    refine ⟨queue, ?_⟩
    simp only [placesHeld, linkRelease_lif, executing, Option.isSome_some, if_true] at held
    simp only [placesHeld, linkRelease_lif, Option.isSome_none, Bool.false_eq_true, if_false]
    split
    · omega
    · simp only [List.length_append, List.length_singleton]
      omega

theorem Keeps.then_endPlain (o : Outcome) : Keeps calm s₀ (endPlain o s).state := by
  unfold endPlain
  split
  · exact h
  · exact h.then_endOrder _ _ _

theorem Keeps.then_endOwned (o : Outcome) : Keeps calm s₀ (endOwned o s).state := by
  unfold endOwned
  split
  · exact h
  · exact h.then_endOrder _ _ _

theorem Keeps.then_endAwaited (o : Outcome) : Keeps calm s₀ (endAwaited o s).state := by
  unfold endAwaited
  split
  · exact h.then_endPlain _
  · exact h

theorem Keeps.then_endLeaver (o : Outcome) (d : Detail) : Keeps calm s₀ (endLeaver o d s).state := by
  unfold endLeaver
  split
  · exact h.then_endOrder _ _ _
  · exact h

theorem Keeps.then_endStopDone : Keeps calm s₀ (endStopDone s).state := by
  unfold endStopDone
  split
  · exact h.then_endOrder _ _ _
  · exact h

/-- An order that ends without a report gives its place up. -/
theorem Keeps.then_dropExecuting : Keeps calm s₀ (dropExecuting s) := by
  refine Keeps.then_txe (h.then_lif _ ?_) _
  rintro ⟨queue, held⟩
  refine ⟨queue, ?_⟩
  simp only [placesHeld, Option.isSome_none, Bool.false_eq_true, if_false] at held ⊢
  omega

/-- An order taken from the queue executes in its place there. -/
theorem Keeps.then_makeExecuting (o : Order) (idle : s.lif.executing = none) (queued : o ∈ s.lif.orderQueue) : Keeps calm s₀ (makeExecuting o s) := by
  refine (h.then_lif _ fun ⟨queue, held⟩ => ?_).then_restartStandby
  have erased := List.length_erase_of_mem queued
  have pos := List.length_pos_of_mem queued
  simp only [placesHeld, idle, Option.isSome_none, Bool.false_eq_true, if_false] at held
  simp only [PlacesReserved, placesHeld, Option.isSome_some, if_true, erased]
  omega

theorem Keeps.then_joinQueue (o : Order) (room : s.lif.orderQueue.length < 4) (places : placesHeld s < 8) : Keeps calm s₀ (joinQueue o s) := by
  refine (h.then_answer handAccept).then_lif _ fun _ => ?_
  unfold placesHeld at places
  constructor
  · change (s.lif.orderQueue ++ [o]).length ≤ 4
    rw [List.length_append, List.length_singleton]
    omega
  · change (s.lif.orderQueue ++ [o]).length + s.lif.reports.length + (if s.lif.executing.isSome then 1 else 0) ≤ 8
    rw [List.length_append, List.length_singleton]
    omega

/-- The orders that an ABORT of all removes give their places to their reports. -/
theorem Keeps.then_removeQueued : Keeps calm s₀ (removeQueued s) := by
  have reported : Keeps calm s₀
      (s.modLif fun l => { l with orderQueue := [], reports := l.reports ++ l.orderQueue.map (removedReport s) }) := by
    refine h.then_lif _ ?_
    rintro ⟨-, held⟩
    unfold placesHeld at held
    refine ⟨Nat.zero_le 4, ?_⟩
    change 0 + (s.lif.reports ++ s.lif.orderQueue.map (removedReport s)).length + (if s.lif.executing.isSome then 1 else 0) ≤ 8
    rw [List.length_append, List.length_map]
    omega
  unfold removeQueued
  dsimp only
  split
  · exact reported
  · exact reported.then_startFlushTimer

/-! ### The job slot's record -/

theorem Keeps.then_modJob (f : Job → Job) : Keeps calm s₀ (modJob f s) := by
  refine h.then_txe _ ?_
  exact fun rests none => rests (by simpa using none)

theorem Keeps.then_takeJob (j : Job) : Keeps calm s₀ (takeJob j s) := h.then_txe _ fun _ none => nomatch none

theorem Keeps.then_setOp (o : SectorOp) (busy : Busy s) : Keeps calm s₀ (setOp o s) :=
  h.then_txe _ fun rests none => absurd none (busy.job rests)

theorem Keeps.then_mediaTake : Keeps calm s₀ (mediaTake s) := h.then_sgc _

theorem Keeps.then_mediaRelease : Keeps calm s₀ (mediaRelease s) := h.then_sgc _

theorem Keeps.then_clearOp : Keeps calm s₀ (clearOp s) := by
  refine Keeps.then_mediaRelease (h.then_txe _ ?_)
  exact fun rests none => ⟨rfl, rfl, (rests none).2.2⟩

theorem Keeps.then_releaseAll : Keeps calm s₀ (releaseAll s) := h.then_sgc _ fun cache => cache.then_releaseAll

theorem Keeps.then_closeJob : Keeps calm s₀ (closeJob s) :=
  (h.then_clearOp.then_txe _ fun _ _ => ⟨rfl, rfl, rfl⟩).then_releaseAll

theorem Keeps.then_setLabel (st : LabelStatus) (r : Option CartridgeRecord) (l : List DefectEntry)
    (sound : LabelSound s → defectsOk s.txe.capacity s.txe.spareCount l = true ∧ (st ≠ .valid → l = []) ∧
      (st = .valid ∨ st = .foreign → r.isSome = true) ∧ (st = .unread → r = none)) : Keeps calm s₀ (setLabel st r l s) :=
  h.then_txe _ id fun label => by
    obtain ⟨defects, empty, record, unread⟩ := sound label
    obtain ⟨zones, capacity, spares, -⟩ := label
    exact ⟨zones, capacity, spares, defects, empty, fun modified => (nomatch modified), record, unread⟩

theorem Keeps.then_forgetCartridge : Keeps calm s₀ (forgetCartridge s) :=
  h.then_setLabel _ _ _ fun _ => ⟨rfl, fun _ => rfl, by simp, fun _ => rfl⟩

theorem Keeps.then_labelWriteFailed : Keeps calm s₀ (labelWriteFailed s) :=
  h.then_txe _ id fun ⟨zones, capacity, spares, defects, empty, modified, record, unread⟩ =>
    ⟨zones, capacity, spares, defects, empty, fun now => by
      rcases Bool.or_eq_true _ _ ▸ now with now | valid
      · exact modified now
      · exact eq_of_beq valid, record, unread⟩

theorem Keeps.then_endJobNow : Keeps calm s₀ (endJobNow s) := by
  unfold endJobNow
  dsimp only
  split
  · exact h.then_labelWriteFailed.then_closeJob.then_txe _
  · exact h.then_closeJob.then_txe _

theorem Keeps.then_departureCancelled : Keeps calm s₀ (departureCancelled s) := (h.then_txe _).then_modJob _

theorem Keeps.then_storeLabel (k : Nat) (data : List Byte) : Keeps calm s₀ (storeLabel k data s) := h.then_txe _

theorem Keeps.then_sentBy (o : SectorOp) (data : List Byte) : Keeps calm s₀ (sentBy o data s) :=
  h.then_txe _ fun rests none => ⟨(rests none).1, rfl, (rests none).2.2⟩

theorem Keeps.then_openGate (o : SectorOp) (busy : Busy s) : Keeps calm s₀ (openGate o s) := by
  refine Keeps.then_modJob (Keeps.then_mediaTake ((h.then_setOp { o with phase := .transferring } busy).then_txe _ ?_)) _
  exact fun rests none => absurd (rests none).1 (by simp [setOp])

theorem Keeps.then_setAside : Keeps calm s₀ (setAside s) := by
  unfold setAside
  split
  · exact h
  · exact h.then_clearOp.then_modJob _

/-! ### The cache -/

/-- An operation on the cache alone keeps the other blocks' invariants. -/
theorem Keeps.then_onlySgc {t : State} (only : { s with sgc := t.sgc } = t) (cache : CacheSound s → CacheSound t) : Keeps calm s₀ t := by
  rw [← only] at cache ⊢
  exact h.trans ⟨fun _ => id, id, id, id, id, id, cache, id⟩

theorem Keeps.then_dropBlock (i n : Nat) : Keeps calm s₀ (dropBlock i n s) :=
  h.then_onlySgc (by unfold dropBlock dropWantedIfClean; split <;> rfl) fun cache => cache.then_dropBlock i n

theorem Keeps.then_clearDirty (i n : Nat) : Keeps calm s₀ (clearDirty i n s) :=
  h.then_onlySgc (by unfold clearDirty dropWantedIfClean; split <;> rfl) fun cache => cache.then_clearDirty i n

theorem Keeps.then_freeAll : Keeps calm s₀ (freeAll s) :=
  h.then_onlySgc (by unfold freeAll dropWantedIfClean; split <;> rfl) fun cache => cache.then_freeAll

theorem Keeps.then_addValid {i n : Nat} (holds : (segmentAt s i).holdsWindow = true) : Keeps calm s₀ (addValid i n s) :=
  h.then_onlySgc rfl fun cache => cache.then_addValid holds

theorem Keeps.then_addDirty {i n : Nat} (holds : (segmentAt s i).holdsWindow = true) : Keeps calm s₀ (addDirty i n s) :=
  h.then_onlySgc rfl fun cache => cache.then_addDirty holds

theorem Keeps.then_attachFree (i : Nat) : Keeps calm s₀ (attach .free i s) := h.then_onlySgc rfl fun cache => cache.then_attach (.inl rfl)

theorem Keeps.then_attachFlush (i : Nat) : Keeps calm s₀ (attachFlush i s) := h.then_onlySgc rfl fun cache => cache.then_attachFlush i

theorem Keeps.then_releaseFlushed : Keeps calm s₀ (releaseFlushed s) := h.then_onlySgc rfl fun cache => cache.then_releaseFlushed

theorem Keeps.then_makeRecent {i : Nat} (hi : CacheSound s → i < s.sgc.segments.length) : Keeps calm s₀ (makeRecent i s) :=
  h.then_onlySgc rfl fun cache => cache.then_makeRecent (hi cache)

theorem Keeps.then_makeStale {i : Nat} (hi : CacheSound s → i < s.sgc.segments.length) : Keeps calm s₀ (makeStale i s) :=
  h.then_onlySgc rfl fun cache => cache.then_makeStale (hi cache)

theorem Keeps.then_storeBlock (i n : Nat) (data : List Byte) : Keeps calm s₀ (storeBlock i n data s) :=
  h.then_onlySgc rfl fun cache => cache.then_storeBlock i n data

theorem Keeps.then_loseBlock (i n : Nat) : Keeps calm s₀ (loseBlock i n s) := ((h.then_dropBlock i n).then_sgc _).then_latch _

theorem Keeps.then_discardBlocks : Keeps calm s₀ (discardBlocks s) := by
  have dropped : Keeps calm s₀ (s.modSgc fun g =>
      { g with segments := g.segments.map Segment.dropDirty, lostBlocks := satAdd 65535 g.lostBlocks (dirtyCount s), flushWanted := false }) :=
    h.then_sgc _ fun cache => cache.then_dropDirty
  unfold discardBlocks
  dsimp only
  split
  · exact dropped.then_latch _
  · exact dropped

theorem Keeps.then_askSegment (n : Nat) (a : Attachment) (reading : Bool) : Keeps calm s₀ (askSegment n a reading s).1 := by
  have only : { s with sgc := (askSegment n a reading s).1.sgc } = (askSegment n a reading s).1 := by
    unfold askSegment
    repeat' split
    all_goals rfl
  refine h.then_onlySgc only fun cache => ?_
  obtain ⟨s', x, asked⟩ : ∃ s' x, askSegment n a reading s = (s', x) := ⟨_, _, rfl⟩
  rw [asked]
  cases x with
  | given i => exact askSegment_sound asked cache
  | flushFirst i => exact askSegment_other asked (by simp) ▸ cache
  | wait => exact askSegment_other asked (by simp) ▸ cache

theorem Keeps.then_placeAtMark (n : Nat) (a : Attachment) : Keeps calm s₀ (placeAtMark n a s).1 := by
  unfold placeAtMark
  split
  · exact h
  · split
    · exact h.then_onlySgc rfl fun cache => cache.then_allocate a (cache.mem_recency.mp (candidate_mem ‹_›)) ‹_›
    · exact h

end

end Sys2Proof.Machine

/-! What the spindle controller, the servo controller and the calibration pass keep (R30 to R49, R65 to R100). -/

namespace Sys2Proof.Machine

set_option Elab.async false

variable {calm : Prop}

theorem countDown_isSome (t : Option Nat) : (countDown t).isSome = t.isSome := by cases t <;> rfl

section Spindle

section

variable {s₀ s : State} (h : Keeps calm s₀ s)
include h

/-- A state entered together with a phase that fits it has the outputs that it fixes (R30, R32). -/
theorem Keeps.then_spindle (st : SpindleState) (level : Nat) (ph : Phase) {p : Spc} (counters : calm → CountersRest p) (fits : phaseFits st ph = true)
    (levels : st = .braking → 1 ≤ level ∧ level ≤ 8) (state : p.state = st) (enable : p.driveEnable = (st == .driving))
    (brake : p.brakeLevel = if st = .braking then level else 0) (phase : p.phase = ph)
    (lock : p.speedLock = (ph == .track)) : Keeps calm s₀ { s with spc := p } := by
  refine h.then_spc _ counters fun _ => ?_
  simp only [SpindleOutputsFollow, state, enable, brake, phase, lock, beq_iff_eq]
  refine ⟨trivial, fun braking => ?_, fun other => if_neg other, fits, trivial⟩
  rw [if_pos braking]
  exact levels braking

theorem Keeps.then_spindleSpinUp : Keeps calm s₀ (spindleSpinUp s) := by
  unfold spindleSpinUp
  split
  · exact h.then_spindle .driving 0 .acquire (fun _ => .inr ⟨rfl, rfl, rfl, rfl, rfl⟩) rfl (by simp) rfl rfl rfl rfl rfl
  · exact h

theorem Keeps.then_brake (interval : Nat) : Keeps calm s₀ (s.modSpc (Spc.brake interval)) :=
  h.then_spindle .braking 8 .idle (fun _ => .inl rfl) rfl (by simp) rfl rfl rfl rfl rfl

theorem Keeps.then_spindleBrake : Keeps calm s₀ (spindleBrake s).state := by
  unfold spindleBrake
  split
  case h_1 | h_2 | h_3 => exact h.then_brake _
  case h_4 | h_5 | h_6 => exact h

theorem Keeps.then_spindleStopDriving : Keeps calm s₀ (spindleStopDriving s).state := by
  unfold spindleStopDriving
  split
  · exact h.then_spindle .coasting 0 .idle (fun _ => .inl rfl) rfl (by simp) rfl rfl rfl rfl rfl
  · exact h

end

/-! The pulses and the clock move the counters: from here on nothing is calm. -/

variable {s₀ s : State} (h : Keeps False s₀ s)
include h

/-- A change of the counters and timers leaves the outputs. -/
theorem Keeps.then_count (p : Spc) (state : p.state = s.spc.state := by rfl)
    (enable : p.driveEnable = s.spc.driveEnable := by rfl) (brake : p.brakeLevel = s.spc.brakeLevel := by rfl)
    (phase : p.phase = s.spc.phase := by rfl) (lock : p.speedLock = s.spc.speedLock := by rfl) : Keeps False s₀ { s with spc := p } := by
  refine h.then_spc _ nofun fun outputs => ?_
  simpa only [SpindleOutputsFollow, state, enable, brake, phase, lock] using outputs

/-- Between ACQUIRE and TRACK the phase changes with the spindle driving (R36, R37). -/
theorem Keeps.then_drivenPhase (ph : Phase) {p : Spc} (driven : s.spc.phase = .acquire ∨ s.spc.phase = .track)
    (next : ph = .acquire ∨ ph = .track) (state : p.state = s.spc.state) (enable : p.driveEnable = s.spc.driveEnable)
    (brake : p.brakeLevel = s.spc.brakeLevel) (phase : p.phase = ph)
    (lock : p.speedLock = (ph == .track)) : Keeps False s₀ { s with spc := p } := by
  refine h.then_spc _ nofun fun ⟨drive, level, noLevel, fits, _⟩ => ?_
  simp only [SpindleOutputsFollow, state, enable, brake, phase, lock, beq_iff_eq]
  refine ⟨drive, level, noLevel, ?_, trivial⟩
  have driving : s.spc.state = .driving := by
    cases now : s.spc.state with
    | driving => rfl
    | _ => rcases driven with driven | driven <;> simp [now, driven, phaseFits] at fits
  rcases next with rfl | rfl <;> simp [driving, phaseFits]

theorem Keeps.then_gainLock (acquire : s.spc.phase = .acquire) : Keeps False s₀ (gainLock s).state :=
  h.then_drivenPhase .track (.inl acquire) (.inr rfl) rfl rfl rfl rfl rfl

theorem Keeps.then_loseLock (track : s.spc.phase = .track) : Keeps False s₀ (loseLock s).state :=
  (h.then_drivenPhase .acquire (.inr track) (.inl rfl) rfl rfl rfl rfl rfl)

theorem Keeps.then_acquireWindowEnd (acquire : s.spc.phase = .acquire) : Keeps False s₀ (acquireWindowEnd s).state := by
  unfold acquireWindowEnd
  split
  · split
    · exact (h.then_count _).then_gainLock acquire
    · exact (h.then_count _)
  · exact (h.then_count _)

theorem Keeps.then_rotationFound : Keeps False s₀ (rotationFound s).state := by
  unfold rotationFound
  split
  · exact (h.then_spindle .braking 4 .idle nofun rfl (by simp) rfl rfl rfl rfl rfl)
  · exact h.then_spindle .waiting 0 .idle nofun rfl (by simp) rfl rfl rfl rfl rfl

theorem Keeps.then_stopConfirm : Keeps False s₀ (stopConfirm s).state :=
  (h.then_spindle .still 0 .idle nofun rfl (by simp) rfl rfl rfl rfl rfl)

theorem Keeps.then_indexPulseAct : Keeps False s₀ (indexPulseAct s).state := by
  unfold indexPulseAct
  split
  case h_1 acquire =>
    split
    · split
      · exact (h.then_count _).then_acquireWindowEnd acquire
      · exact (h.then_count _)
    · exact (h.then_count _)
  case h_2 => exact (h.then_count _).then_rotationFound
  case h_3 | h_4 => exact h

theorem Keeps.then_commutationAct : Keeps False s₀ (commutationAct s).state := by
  unfold commutationAct
  split
  case h_1 track =>
    split
    · exact (h.then_count _).then_loseLock track
    · exact (h.then_count _)
  all_goals exact h

theorem Keeps.then_overflowAct : Keeps False s₀ (overflowAct s).state := by
  unfold overflowAct
  split
  case h_1 => exact h
  case h_2 => exact (h.then_count _)
  case h_3 track =>
    split
    · exact (h.then_count _)
    · split
      · exact (h.then_count _).then_loseLock track
      · exact (h.then_count _)
  case h_4 =>
    split
    · exact (h.then_count _).then_stopConfirm
    · exact (h.then_count _)

theorem Keeps.then_spinUpTimerAct : Keeps False s₀ (spinUpTimerAct s).state := by
  unfold spinUpTimerAct
  split
  · exact (h.then_spindle .coasting 0 .idle nofun rfl (by simp) rfl rfl rfl rfl rfl)
  · exact h

theorem Keeps.then_beginCheck {p : Spc} (state : p.state = .checking) (enable : p.driveEnable = false)
    (brake : p.brakeLevel = 0) (phase : p.phase = .stopCheck) (lock : p.speedLock = false) : Keeps False s₀ { s with spc := p } :=
  h.then_spindle .checking 0 .stopCheck nofun rfl (by simp) state enable brake phase lock

theorem Keeps.then_brakeStepAct : Keeps False s₀ (brakeStepAct s).state := by
  unfold brakeStepAct
  split
  · rename_i due
    split
    · rw [done_state]
      refine h.then_spc _ nofun ?_
      rintro ⟨drive, level, -, fits, lock⟩
      obtain ⟨-, high⟩ := level due.2
      exact ⟨drive, fun _ => ⟨by dsimp only; omega, by dsimp only; omega⟩, fun other => absurd due.2 other, fits, lock⟩
    · exact (h.then_beginCheck rfl rfl rfl rfl rfl)
  · exact h

theorem Keeps.then_checkWaitAct : Keeps False s₀ (checkWaitAct s).state := by
  unfold checkWaitAct
  split
  · exact (h.then_beginCheck rfl rfl rfl rfl rfl)
  · exact h

theorem Keeps.then_elapse : Keeps False s₀ (elapse s) := by
  have counted := h.then_csq
    { s.csq with debounce := countDown s.csq.debounce, oneShot := countDown s.csq.oneShot, ejectCheck := countDown s.csq.ejectCheck,
                 standby := countDown s.csq.standby, grace := countDown s.csq.grace }
    fun ⟨lock, pulse⟩ => ⟨lock, fun runs => pulse (countDown_isSome _ ▸ runs)⟩
  exact ((((counted.then_count _).then_svc _).then_txe _).then_sgc _).then_smn _

theorem Keeps.then_countTick : Keeps False s₀ (countTick s).state := by
  unfold countTick
  split
  · exact h
  · split
    · exact (h.then_count _).then_overflowAct
    · exact (h.then_count _)

end Spindle

/-! ### The servo -/

theorem clamp_mem {lo hi x : Int} (h : lo ≤ hi) : lo ≤ clamp lo hi x ∧ clamp lo hi x ≤ hi := by
  unfold clamp
  split
  · omega
  · split <;> omega

/-- The ranges of the command, the integrator and the bias entries, in the servo's record alone (R67, R82, R90). -/
def Svc.InRange (v : Svc) : Prop :=
  (-127 ≤ v.command ∧ v.command ≤ 127) ∧ (-8192 ≤ v.integrator ∧ v.integrator ≤ 8192) ∧ ∀ x ∈ v.bias, (-32 : Int) ≤ x ∧ x ≤ 31

theorem Svc.InRange.setCommand {v : Svc} (h : v.InRange) (i : Int) : (v.setCommand i).InRange := ⟨clamp_mem (by decide), h.2⟩

theorem Svc.InRange.integrate {v : Svc} (h : v.InRange) (e : Int) : (v.integrate e).InRange := ⟨h.1, clamp_mem (by decide), h.2.2⟩

theorem Svc.InRange.law {v : Svc} (h : v.InRange) (e : Int) : (v.law e).InRange := by
  unfold Svc.law
  split
  · exact h.setCommand _
  · exact Svc.InRange.setCommand (v := (v.integrate e).terms e) (h.integrate e) _

theorem Svc.InRange.transition {v : Svc} (h : v.InRange) (e : Int) : (v.transition e).InRange := by
  refine ⟨h.1, ?_, h.2.2⟩
  unfold Svc.transition
  dsimp only
  split
  · omega
  · exact h.2.1

theorem Svc.InRange.settle {v : Svc} (h : v.InRange) (e : Int) : (v.settle e).InRange := by
  unfold Svc.settle
  split
  · split
    · split <;> exact h
    · exact h
  · exact h

theorem Svc.InRange.sample {v : Svc} (h : v.InRange) (e : Int) : ((((v.transition e).law e).settle e).permit e).InRange :=
  ((h.transition e).law e).settle e

section Servo

variable {s₀ s : State} (h : Keeps calm s₀ s)
include h

theorem Keeps.then_retractTo (m : ServoMode) (c : RetractCause) : Keeps calm s₀ (s.modSvc (Svc.retractTo m c)) :=
  h.then_svc _ fun range => ⟨⟨by simp [Svc.retractTo], by simp [Svc.retractTo]⟩, range.2⟩

theorem Keeps.then_cutOffSeek : Keeps calm s₀ (cutOffSeek s).state := by
  unfold cutOffSeek
  split
  · exact h.then_svc _
  · exact h

theorem Keeps.then_servoRetract : Keeps calm s₀ (servoRetract s).state := by
  unfold servoRetract
  split
  case h_1 | h_2 | h_3 | h_4 => exact (h.then_retractTo _ _).then_cutOffSeek
  case h_5 | h_6 => exact h.then_svc _
  case h_7 => exact h

theorem Keeps.then_loadFailure : Keeps calm s₀ (loadFailure s) := h.then_retractTo _ _

theorem Keeps.then_servoLost : Keeps calm s₀ (servoLost s).state := (h.then_retractTo _ _).then_cutOffSeek

theorem Keeps.then_retractTimerAct : Keeps calm s₀ (retractTimerAct s).state := by
  unfold retractTimerAct
  split
  · rw [send_state]
    exact h.then_svc _ fun range => ⟨⟨by simp, by simp⟩, range.2⟩
  · exact h

theorem Keeps.then_servoLoad : Keeps calm s₀ (servoLoad s).state := by
  unfold servoLoad
  split
  · split
    · rw [done_state]
      refine h.then_svc _ fun range => ⟨⟨?_, ?_⟩, ⟨?_, ?_⟩, range.2.2⟩ <;> simp
    · exact h
  · exact h

theorem Keeps.then_servoTarget (r : Requester) (cylinder head : Nat) (offset : Int) : Keeps calm s₀ (servoTarget r cylinder head offset s).state := by
  obtain ⟨v, target, -, -, bias, command, integrator⟩ := servoTarget_cases r cylinder head offset s
  rw [target]
  refine h.trans ⟨fun _ => id, id, id, fun ⟨commands, integrators, biases⟩ => ?_, id, id, id, id⟩
  refine ⟨command ▸ commands, ?_, bias ▸ biases⟩
  rcases integrator with same | zero
  · exact same ▸ integrators
  · exact ⟨by simp [zero], by simp [zero]⟩

theorem Keeps.then_modCal (f : Calibration → Calibration) : Keeps calm s₀ (modCal f s) := h.then_svc _

theorem Keeps.then_passSeek (b : Nat) : Keeps calm s₀ (passSeek b s).state := (h.then_modCal _).then_servoTarget _ _ _ _

theorem Keeps.then_passComplete : Keeps calm s₀ (passComplete s).state := by
  unfold passComplete
  dsimp only
  rw [send_state]
  split
  · exact ((h.then_modCal _).then_svc _).then_latch _
  · exact (h.then_modCal _).then_svc _

theorem Keeps.then_passAdvance : Keeps calm s₀ (passAdvance s).state := by
  unfold passAdvance
  split
  · exact h.then_passSeek _
  · exact h.then_passComplete

theorem Keeps.then_bandComplete : Keeps calm s₀ (bandComplete s).state := by
  refine Keeps.then_passAdvance (h.then_svc _ ?_)
  rintro ⟨command, -, bias⟩
  refine ⟨command, ⟨by simp, by simp⟩, fun x hx => ?_⟩
  obtain ⟨j, hj, rfl⟩ := List.mem_iff_getElem.mp hx
  simp only [List.length_modify] at hj
  simp only [List.getElem_modify]
  split
  · exact clamp_mem (by decide)
  · exact bias _ (List.getElem_mem hj)

theorem Keeps.then_passRequest (order : Option Nat) : Keeps calm s₀ (passRequest order s).state := by
  unfold passRequest
  split
  · exact (h.then_modCal _).then_passSeek _
  · exact h

theorem Keeps.then_passInterrupt : Keeps calm s₀ (passInterrupt s) := by
  unfold passInterrupt
  split
  · exact h
  · exact (h.then_modCal _).then_latch _

theorem Keeps.then_passOnTrack : Keeps calm s₀ (passOnTrack s).state := by
  unfold passOnTrack
  split
  · exact h.then_svc _
  · exact h

theorem Keeps.then_passSeekError : Keeps calm s₀ (passSeekError s).state := by
  unfold passSeekError
  split
  · split
    case h_1 | h_2 | h_3 => exact h.then_passAdvance
    all_goals exact h.then_svc _
  · exact h

theorem Keeps.then_passGather : Keeps calm s₀ (passGather s).state := by
  unfold passGather
  split
  · split
    · dsimp only
      split
      · exact (h.then_modCal _).then_bandComplete
      · exact h.then_svc _
    · dsimp only
      split
      · exact h.then_svc _
      · exact (h.then_modCal _).then_passAdvance
  · exact h

theorem Keeps.then_followEntered : Keeps calm s₀ (followEntered s).state := by
  unfold followEntered
  split
  · split <;> exact h.then_svc _
  · exact h.then_svc _

theorem Keeps.then_timeoutAct : Keeps calm s₀ (timeoutAct s).state := by
  unfold timeoutAct
  dsimp only
  split
  · exact (h.then_svc _).then_loadFailure
  · exact h.then_svc _

theorem Keeps.then_countTimeout : Keeps calm s₀ (countTimeout s).state := by
  unfold countTimeout
  split
  · split
    · exact h.then_timeoutAct
    · exact h.then_svc _
  · exact h

theorem Keeps.then_validLogic : Keeps calm s₀ (validLogic s).state := by
  unfold validLogic
  dsimp only
  have sampled := h.then_svc
    ((((s.svc.transition (targetPosition s.svc - s.svc.pos.p)).law (targetPosition s.svc - s.svc.pos.p)).settle
      (targetPosition s.svc - s.svc.pos.p)).permit (targetPosition s.svc - s.svc.pos.p))
    fun range => Svc.InRange.sample range _
  split
  · exact sampled.then_passGather
  · split
    · exact sampled.then_followEntered
    · exact sampled.then_countTimeout

theorem Keeps.then_raiseLost : Keeps calm s₀ (raiseLost s).state := by
  unfold raiseLost
  split
  · exact h.then_servoLost
  · exact h

theorem Keeps.then_missedLogic : Keeps calm s₀ (missedLogic s).state :=
  (h.then_svc _).then_countTimeout.andThen fun _ h => h.then_raiseLost

theorem Keeps.then_loadLimitAct : Keeps calm s₀ (loadLimitAct s) := (h.then_svc _).then_loadFailure

theorem Keeps.then_loadingSample (r : ServoRecord) : Keeps calm s₀ (loadingSample r s).state := by
  unfold loadingSample
  split
  · refine Keeps.then_validLogic (h.then_svc _ ?_)
    exact fun ⟨command, _, bias⟩ => ⟨command, ⟨by simp, by simp⟩, bias⟩
  · split
    · exact (h.then_svc _).then_loadLimitAct
    · exact h.then_svc _

theorem Keeps.then_trackingSample (r : ServoRecord) : Keeps calm s₀ (trackingSample r s).state := by
  unfold trackingSample
  split
  · exact (h.then_svc _).then_validLogic
  · exact (h.then_svc _).then_missedLogic

theorem Keeps.then_servoSampleAct (r : ServoRecord) : Keeps calm s₀ (servoSampleAct r s).state := by
  unfold servoSampleAct
  split
  case h_1 | h_2 | h_3 => exact h
  case h_4 =>
    split
    · exact h
    · exact h.then_loadingSample r
  case h_5 | h_6 | h_7 =>
    split
    · exact h
    · exact h.then_trackingSample r

end Servo

end Sys2Proof.Machine

/-! What the transfer engine keeps (R115 to R139). An operation begins only where the slot holds a job (`Busy`). -/

namespace Sys2Proof.Machine

set_option Elab.async false

variable {calm : Prop}

section

variable {s₀ s : State} (h : Keeps calm s₀ s)
include h

/-! ### Ends of jobs -/

theorem Keeps.then_endOrderJob (o : Outcome) (d : Detail) (extra : List Signal) : Keeps calm s₀ (endOrderJob o d extra s).state :=
  h.then_closeJob.then_endOrder _ _ _

theorem Keeps.then_endOrderJobPlain (o : Outcome) : Keeps calm s₀ (endOrderJobPlain o s).state := h.then_endOrderJob _ _ _

theorem Keeps.then_endOrderJobOwned (o : Outcome) : Keeps calm s₀ (endOrderJobOwned o s).state := h.then_endOrderJob _ _ _

theorem Keeps.then_endBackground : Keeps calm s₀ (endBackground s).state := by
  unfold endBackground
  dsimp only
  split
  · exact h.then_closeJob.then_startFlushTimer
  · exact h.then_closeJob

theorem Keeps.then_boundary {goOn : State → Act} (on : Keeps calm s₀ (goOn s).state) : Keeps calm s₀ (boundary goOn s).state := by
  rcases boundary_cases goOn s with same | ⟨ended, -⟩ | ⟨yielded, -⟩
  · rwa [same]
  · rw [ended]
    exact h.then_endOrderJobPlain _
  · rw [yielded]
    exact h.then_endBackground

theorem Keeps.then_flushOver : Keeps calm s₀ (flushOver s).state := by
  unfold flushOver
  split
  · exact h
  · split
    · exact h.then_endOrderJobPlain _
    · split
      · exact h.then_closeJob
      · exact h.then_endBackground

theorem Keeps.then_finishRead : Keeps calm s₀ (finishRead s).state := by
  unfold finishRead
  split
  · split
    · split
      · exact h.then_endOrderJob _ _ _
      · exact h
    · split
      · exact h.then_endOrderJob _ _ _
      · exact h
  · exact h

theorem Keeps.then_finishThrough : Keeps calm s₀ (finishThrough s).state := by
  unfold finishThrough
  split
  · exact h.then_endOrderJob _ _ _
  · exact h

/-- The record of a label written whole is the one that was formed, and the defect list stays (R120). -/
theorem Keeps.then_labelWritten : Keeps calm s₀ (labelWritten s).state := by
  refine Keeps.then_flushOver (h.then_setLabel _ _ _ ?_)
  exact fun ⟨_, _, _, defects, _⟩ => ⟨defects, by simp, by simp, by simp⟩

/-! ### Positioning -/

theorem Keeps.then_seekOp (o : SectorOp) (busy : Busy s) : Keeps calm s₀ (seekOp o s).state := (h.then_setOp _ busy).then_servoTarget _ _ _ _

theorem Keeps.then_positionOp (o : SectorOp) (busy : Busy s) : Keeps calm s₀ (positionOp o s).state := by
  unfold positionOp
  split
  · exact h.then_setOp _ busy
  · exact h.then_seekOp _ busy

theorem Keeps.then_beginMapped (target : OpTarget) (dir : Direction) (busy : Busy s) : Keeps calm s₀ (beginMapped target dir s).state :=
  h.then_positionOp _ busy

/-! ### Work of the jobs -/

theorem Keeps.then_beginLabelWrite (busy : Busy s) : Keeps calm s₀ (beginLabelWrite s).state :=
  ((h.then_txe { s.txe with labelStore := labelSectors s.txe }).then_modJob _).then_beginMapped _ _ (Busy.modJob busy _)

theorem Keeps.then_flushWork (busy : Busy s) : Keeps calm s₀ (flushWork s).state := by
  have released := h.then_releaseFlushed
  unfold flushWork
  dsimp only
  split
  · split
    · exact (released.then_attachFlush _).then_beginMapped _ _ busy
    · exact released
  · split
    · exact released.then_beginLabelWrite busy
    · exact released.then_flushOver

theorem Keeps.then_labelWork (todo : List Nat) (busy : Busy s) : Keeps calm s₀ (labelWork todo s).state := by
  unfold labelWork
  split
  · exact h.then_beginMapped _ _ busy
  · exact h.then_labelWritten

theorem Keeps.then_beginSegmentFlush (i : Nat) (waiting : Option SectorOp) (busy : Busy s) : Keeps calm s₀ (beginSegmentFlush i waiting s).state := by
  have flushing := (h.then_attachFlush i).then_modJob (fun j => { j with flushing := some i, suspended := waiting })
  unfold beginSegmentFlush
  dsimp only
  split
  · exact flushing.then_beginMapped _ _ (Busy.modJob busy _)
  · exact flushing

end

theorem askSegment_txe {n : Nat} {a : Attachment} {reading : Bool} {s t : State} {x : SegmentAnswer} (asked : askSegment n a reading s = (t, x)) :
    t.txe = s.txe := by
  obtain rfl : (askSegment n a reading s).1 = t := by rw [asked]
  unfold askSegment
  repeat' split
  all_goals rfl

theorem Keeps.then_asked {s₀ s t : State} (h : Keeps calm s₀ s) {n : Nat} {a : Attachment} {reading : Bool} {x : SegmentAnswer}
    (asked : askSegment n a reading s = (t, x)) : Keeps calm s₀ t := by
  obtain rfl : (askSegment n a reading s).1 = t := by rw [asked]
  exact h.then_askSegment n a reading

theorem Busy.of_txe {s t : State} (busy : Busy s) (same : t.txe = s.txe) : Busy t := by
  unfold Busy
  rwa [same]

theorem Keeps.then_serveRead {s₀ : State} (fuel : Nat) : ∀ {s : State}, Keeps calm s₀ s → Keeps calm s₀ (serveRead fuel s).state := by
  induction fuel with
  | zero => exact id
  | succ fuel ih =>
    intro s h
    unfold serveRead
    split
    · rename_i work
      have busy := Busy.of_jobWork work
      split
      · exact h
      · dsimp only
        split
        · rename_i asked
          have given := h.then_asked asked
          split
          · exact ih (given.then_modJob _)
          · exact given.then_beginMapped _ _ (busy.of_txe (askSegment_txe asked))
        · rename_i asked
          exact (h.then_asked asked).then_beginSegmentFlush _ _ (busy.of_txe (askSegment_txe asked))
        · rename_i asked
          exact (h.then_asked asked).then_beginMapped _ _ (busy.of_txe (askSegment_txe asked))
    · exact h

section

variable {s₀ s : State} (h : Keeps calm s₀ s)
include h

theorem Keeps.then_readWork : Keeps calm s₀ (readWork s).state := by
  unfold readWork
  split
  · exact Keeps.then_serveRead _ h
  · exact h

theorem Keeps.then_writeWork (through : Bool) (queue : List Nat) (busy : Busy s) : Keeps calm s₀ (writeWork through queue s).state := by
  unfold writeWork
  split
  · exact (h.then_modJob _).then_beginSegmentFlush _ _ (busy.modJob _)
  · split
    · exact h.then_finishThrough
    · exact h

end

/-- The window of a read-ahead asks for a segment at most. -/
theorem aheadWindow_cases {base from_ : Nat} {s t : State} {x : Ahead} (window : aheadWindow base from_ s = (t, x)) :
    t = s ∨ ∃ y, askSegment base .readAhead false s = (t, y) := by
  unfold aheadWindow at window
  dsimp only at window
  split at window
  · cases window
    exact .inl rfl
  · split at window
    · rename_i asked
      split at window <;> cases window <;> exact .inr ⟨_, asked⟩
    · rename_i asked
      cases window
      exact .inr ⟨_, asked⟩

theorem Keeps.then_window {s₀ s t : State} (h : Keeps calm s₀ s) {base from_ : Nat} {x : Ahead} (window : aheadWindow base from_ s = (t, x)) :
    Keeps calm s₀ t := by
  rcases aheadWindow_cases window with rfl | ⟨y, asked⟩
  · exact h
  · exact h.then_asked asked

theorem aheadWindow_txe {s t : State} {base from_ : Nat} {x : Ahead} (window : aheadWindow base from_ s = (t, x)) : t.txe = s.txe := by
  rcases aheadWindow_cases window with rfl | ⟨y, asked⟩
  · rfl
  · exact askSegment_txe asked

section

variable {s₀ s : State} (h : Keeps calm s₀ s)
include h

theorem Keeps.then_aheadFill (n : Nat) (second : Option Nat) (busy : Busy s) : Keeps calm s₀ (aheadFill n second s).state :=
  (h.then_modJob _).then_beginMapped _ _ (busy.modJob _)

theorem Keeps.then_aheadWork (base from_ : Nat) (second : Option Nat) (busy : Busy s) : Keeps calm s₀ (aheadWork base from_ second s).state := by
  unfold aheadWork
  split
  · rename_i first
    exact (h.then_window first).then_aheadFill _ _ (busy.of_txe (aheadWindow_txe first))
  · rename_i first
    exact (h.then_window first).then_endBackground
  · rename_i first
    have skipped := h.then_window first
    split
    · exact skipped.then_endBackground
    · split
      · rename_i next
        exact (skipped.then_window next).then_aheadFill _ _ (busy.of_txe ((aheadWindow_txe next).trans (aheadWindow_txe first)))
      · rename_i next
        exact (skipped.then_window next).then_endBackground

theorem Keeps.then_seekWork (busy : Busy s) : Keeps calm s₀ (seekWork s).state := by
  unfold seekWork
  split
  · rename_i cylinder head _
    have begun : Keeps calm s₀ (beginOp .seekOnly .read { cylinder := cylinder, head := head, sector := 0 } s).state := h.then_positionOp _ busy
    dsimp only
    split
    · exact begun.then_endOrderJobPlain _
    · exact begun
  · exact h

theorem Keeps.then_workOn : Keeps calm s₀ (workOn s).state := by
  unfold workOn
  split
  · exact h
  · exact h.then_readWork
  all_goals rename_i work
  · exact h.then_writeWork _ _ (.of_jobWork work)
  · exact h.then_flushWork (.of_jobWork work)
  · exact h.then_labelWork _ (.of_jobWork work)
  · exact h.then_beginMapped _ _ (.of_jobWork work)
  · exact h.then_seekWork (.of_jobWork work)
  · exact h.then_aheadWork _ _ _ (.of_jobWork work)

theorem Keeps.then_resumeWork : Keeps calm s₀ (resumeWork s).state := by
  unfold resumeWork
  split
  · exact h.then_readWork
  · rename_i job
    exact (h.then_modJob _).then_positionOp _ (Busy.modJob (.of_job job) _)
  · exact h.then_workOn

theorem Keeps.then_nextSector : Keeps calm s₀ (nextSector s).state := by
  unfold nextSector
  split
  · exact h
  · rename_i job
    split
    · exact h.then_resumeWork
    · split
      · exact h.then_beginMapped _ _ (.of_job job)
      · exact ((h.then_attachFree _).then_modJob _).then_resumeWork

/-! ### The label read -/

theorem Keeps.then_labelDecided (st : LabelStatus) (r : Option CartridgeRecord) (l : List DefectEntry)
    (sound : LabelSound s → defectsOk s.txe.capacity s.txe.spareCount l = true ∧ (st ≠ .valid → l = []) ∧
      (st = .valid ∨ st = .foreign → r.isSome = true) ∧ (st = .unread → r = none)) : Keeps calm s₀ (labelDecided st r l s).state :=
  (h.then_setLabel st r l sound).then_closeJob

omit h in
/-- A decision of the three sectors is sound: a list it takes has passed the checks of R109. -/
theorem decideLabel_sound (t : Txe) (s0 s1 s2 : List Byte) :
    defectsOk t.capacity t.spareCount (decideLabel t s0 s1 s2).2.2 = true ∧
      ((decideLabel t s0 s1 s2).1 ≠ .valid → (decideLabel t s0 s1 s2).2.2 = []) ∧
      ((decideLabel t s0 s1 s2).1 = .valid ∨ (decideLabel t s0 s1 s2).1 = .foreign → (decideLabel t s0 s1 s2).2.1.isSome = true) ∧
      ((decideLabel t s0 s1 s2).1 = .unread → (decideLabel t s0 s1 s2).2.1 = none) := by
  have empty : defectsOk t.capacity t.spareCount [] = true := rfl
  unfold decideLabel
  dsimp only
  split
  · simp [empty]
  · split
    · simp [empty]
    · split
      · simp [empty]
      · rename_i checked
        simp only [not_or, Bool.not_eq_false] at checked
        simp [checked.2]

theorem Keeps.then_labelSectorRead (k : Nat) (busy : Busy s) : Keeps calm s₀ (labelSectorRead k s).state := by
  unfold labelSectorRead
  split
  · split
    · rename_i st signature
      refine h.then_labelDecided st none [] fun _ => ?_
      unfold signatureStatus at signature
      split at signature
      · cases signature
        exact ⟨rfl, by simp⟩
      · split at signature <;> cases signature
        exact ⟨rfl, by simp⟩
    · exact h.then_beginMapped _ _ busy
  · exact h.then_beginMapped _ _ busy
  · exact h.then_labelDecided _ _ _ fun _ => decideLabel_sound _ _ _ _

theorem Keeps.then_takeLabelRead : Keeps calm s₀ (takeLabelRead s).state := by
  unfold takeLabelRead
  split
  · exact (h.then_takeJob _).then_beginMapped _ _ (.inl (by simp [takeJob]))
  · exact h

/-! ### The end of a sector operation -/

theorem Keeps.then_opEnded (recovered : Bool) : Keeps calm s₀ (opEnded recovered s).state := by
  unfold opEnded
  split
  · exact h
  · rename_i o op
    have busy := Busy.of_op op
    have ended : Keeps calm s₀ ((clearOp s).modTxe fun t => { t with jobRecovered := t.jobRecovered || recovered }) :=
      h.trans ⟨fun _ => id, id, id, id, fun rests none => absurd none (busy.job rests), id, id, id⟩
    dsimp only
    split
    · rename_i job _
      exact ended.then_labelSectorRead _ (.of_job job)
    · have advanced := ended.then_modJob (Job.advance (opPosition o ((clearOp s).modTxe fun t => { t with jobRecovered := t.jobRecovered || recovered })))
      split
      · exact advanced.then_labelWritten
      · exact advanced.then_boundary advanced.then_nextSector

theorem Keeps.then_failRead (f : ReadFailure) : Keeps calm s₀ (failRead f s).state := by
  unfold failRead
  dsimp only
  split
  · exact (h.then_modJob _).then_finishRead
  · exact (h.then_modJob _).then_boundary (h.then_modJob _).then_readWork

theorem Keeps.then_departureEnds (r : Outcome) (d : Detail) : Keeps calm s₀ (departureEnds r d s).state := h.then_closeJob

theorem Keeps.then_opFailed (r : Outcome) : Keeps calm s₀ (opFailed r s).state := by
  have cleared := h.then_clearOp
  unfold opFailed
  split
  · dsimp only
    split
    · exact cleared.then_labelDecided _ _ _ fun _ => ⟨rfl, by simp⟩
    · exact cleared.then_endBackground
    · rename_i o j _ _ _ _
      have marked : Keeps calm s₀ (match j.work with | .label _ _ => labelWriteFailed (clearOp s) | _ => clearOp s) := by
        split
        · exact cleared.then_labelWriteFailed
        · exact cleared
      split
      · exact marked.then_departureEnds _ _
      · exact marked.then_endBackground
    · split
      · split
        · exact cleared.then_failRead _
        · exact cleared.then_failRead _
      · split
        · refine Keeps.then_endOrderJobPlain ?_ _
          split
          · exact cleared
          · exact cleared.then_labelWriteFailed
        · exact cleared.then_labelWriteFailed.then_endOrderJobPlain _
      · exact cleared.then_endOrderJobPlain _
      all_goals exact cleared.then_endOrderJob _ _ _
  · exact h

theorem Keeps.then_countRetry (resend : Bool) (ph : OpPhase) : Keeps calm s₀ (countRetry resend ph s).state := by
  unfold countRetry
  split
  · exact h
  · rename_i o op
    split
    · dsimp only
      have counted : Keeps calm s₀ ((setOp { o with retries := o.retries + 1, phase := ph } s).modTxe fun t =>
          { t with retryCounter := satAdd 65535 t.retryCounter 1 }) := (h.then_setOp _ (.of_op op)).then_txe _
      refine Keeps.andThen ?_ fun _ k => k.then_boundary k
      split
      · exact counted.then_seekOp _ (.of_op rfl)
      · exact counted
    · exact h.then_opFailed _

theorem Keeps.then_closeGate : Keeps calm s₀ (s.modTxe fun t => { t with gate := false }) := by
  refine h.then_txe _ ?_
  exact fun rests none => ⟨(rests none).1, rfl, (rests none).2.2⟩

theorem Keeps.then_mediaWatch : Keeps calm s₀ (mediaWatch s).state := by
  unfold mediaWatch
  split
  · exact h
  · split
    · exact h
    · split
      · exact h.then_closeGate.then_mediaRelease.then_countRetry _ _
      · exact h

theorem Keeps.then_transferOnTrack : Keeps calm s₀ (transferOnTrack s).state := by
  unfold transferOnTrack
  split
  · exact h
  · rename_i o op
    split
    · exact h
    · split
      · exact h.then_endOrderJobPlain _
      · exact h.then_setOp _ (.of_op op)

theorem Keeps.then_transferSeekError : Keeps calm s₀ (transferSeekError s).state := by
  unfold transferSeekError
  split
  · exact h
  · rename_i o op
    split
    · exact h
    · split
      case h_1 | h_2 =>
        dsimp only
        split
        · exact h.then_seekOp _ (.of_op op)
        · exact (h.then_setOp _ (.of_op op)).then_opFailed _
      all_goals exact h

/-! ### Marks and fields -/

theorem Keeps.then_placed {n : Nat} {a : Attachment} {t : State} {x : Option Nat} (place : placeAtMark n a s = (t, x)) :
    Keeps calm s₀ t ∧ t.txe = s.txe := by
  obtain rfl : (placeAtMark n a s).1 = t := by rw [place]
  refine ⟨h.then_placeAtMark n a, ?_⟩
  unfold placeAtMark
  repeat' split
  all_goals rfl

omit h in
theorem placeAtMark_none {n : Nat} {a : Attachment} {t : State} (place : placeAtMark n a s = (t, none)) : t = s := by
  unfold placeAtMark at place
  split at place
  · cases place
  · split at place <;> cases place
    rfl

theorem Keeps.then_readAtMark (o : SectorOp) (busy : Busy s) : Keeps calm s₀ (readAtMark o s).state := by
  unfold readAtMark
  split
  · exact h
  · exact h.then_setOp _ busy
  · rename_i n target
    split
    · exact h.then_opEnded _
    · split
      · rename_i place
        obtain ⟨placed, same⟩ := h.then_placed place
        exact (placed.then_setOp _ (busy.of_txe same)).then_mediaTake
      · rename_i place
        rw [placeAtMark_none place]
        have counted := h.then_txe { s.txe with missedRevolutions := satAdd 65535 s.txe.missedRevolutions 1 }
        dsimp only
        split
        · exact counted.then_beginSegmentFlush _ _ busy
        · exact counted

theorem Keeps.then_writeAtMark (o : SectorOp) (busy : Busy s) : Keeps calm s₀ (writeAtMark o s).state := by
  unfold writeAtMark
  split
  · exact h.then_txe _
  · split
    · exact h.then_opFailed _
    · split
      · exact h.then_countRetry _ _
      · exact h.then_openGate _ busy

theorem Keeps.then_sectorMarkAct (m : SectorHeader) : Keeps calm s₀ (sectorMarkAct m s).state := by
  unfold sectorMarkAct
  split
  · exact h
  · rename_i o op
    split
    · exact h
    · split
      · exact h.then_setOp _ (.of_op op)
      · split
        · exact h.then_countRetry _ _
        · split
          · exact h.then_countRetry _ _
          · split
            · exact h
            · split
              · exact h.then_readAtMark o (.of_op op)
              · exact h.then_writeAtMark o (.of_op op)

theorem Keeps.then_readFieldAct (data : List Byte) (good : Bool) : Keeps calm s₀ (readFieldAct data good s).state := by
  unfold readFieldAct
  split
  · exact h
  · split
    · exact h
    · split
      · exact h
      · dsimp only
        split
        · exact (h.then_storeLabel _ _).then_opEnded _
        · exact (h.then_storeLabel _ _).then_countRetry _ _
      · split
        · exact h.then_mediaRelease.then_countRetry _ _
        · rename_i n _ _ i found
          have stored := h.then_mediaRelease.then_storeBlock i n data
          dsimp only
          split
          · exact ((stored.then_addValid (findWindow_some found).2.2).then_modJob _).then_opEnded _
          · exact stored.then_countRetry _ _

theorem Keeps.then_countWritten (n : Nat) : Keeps calm s₀ (countWritten n s) := by
  unfold countWritten
  split
  · exact h.then_setBlocks _
  · split
    · exact h.then_setBlocks _
    · exact h
  · exact h

theorem Keeps.then_writeFieldAct : Keeps calm s₀ (writeFieldAct s).state := by
  unfold writeFieldAct
  split
  · exact h
  · split
    · exact h
    · split
      · exact h
      · exact (h.then_sentBy _ _).then_opEnded _
      · split
        · exact h.then_opEnded _
        · exact (((h.then_sentBy _ _).then_clearDirty _ _).then_countWritten _).then_opEnded _

theorem Keeps.then_holdWaitAct : Keeps calm s₀ (holdWaitAct s).state := by
  unfold holdWaitAct
  split
  · exact h.then_opFailed _
  · exact h

theorem Keeps.then_mediaParityAct : Keeps calm s₀ (mediaParityAct s).state := by
  unfold mediaParityAct
  split
  · split
    · rename_i n _ _ _ _ _ _ _ i _
      have lost := (h.then_loseBlock i n).then_clearOp
      exact lost.then_boundary lost.then_nextSector
    · exact h
  · exact h

/-! ### Requests for the slot -/

theorem Keeps.then_requestYield : Keeps calm s₀ (requestYield s).state := by
  unfold requestYield
  split
  · exact (h.then_txe _).then_boundary (h.then_txe _)
  · exact h

theorem Keeps.then_yieldIfDue : Keeps calm s₀ (yieldIfDue s).state := by
  unfold yieldIfDue
  split
  · exact h.then_requestYield
  · exact h

theorem Keeps.then_requestBackground : Keeps calm s₀ (requestBackground s).state := by
  unfold requestBackground
  split
  · exact ((h.then_takeJob _).then_sgc { s.sgc with flushWanted := false }).then_flushWork (.of_job rfl) |>.andThen fun _ k => k.then_yieldIfDue
  · exact h

theorem Keeps.then_takeDeparture : Keeps calm s₀ (takeDeparture s).state :=
  ((h.then_takeJob (newJob .flush .departure .flush)).then_txe { s.txe with job := some (newJob .flush .departure .flush), departureWaits := false }
    ).then_flushWork (.of_job rfl)

theorem Keeps.then_requestDeparture : Keeps calm s₀ (requestDeparture s).state := by
  unfold requestDeparture
  split
  · exact h.then_takeDeparture
  · split
    · exact (h.then_txe { s.txe with yieldPending := false }).then_modJob _
    · split
      · exact (h.then_txe { s.txe with departureWaits := true }).then_requestYield
      · exact h.then_txe _

theorem Keeps.then_startReadAhead (first count : Nat) : Keeps calm s₀ (startReadAhead first count s).state := by
  unfold startReadAhead
  split
  · exact ((h.then_takeJob _).then_aheadWork _ _ _ (.of_job rfl)).andThen fun _ k => k.then_yieldIfDue
  · exact h

/-! ### Orders of the engine in the slot -/

omit h in
theorem mem_insertDefect {d e : DefectEntry} {l : List DefectEntry} : e ∈ insertDefect d l ↔ e = d ∨ e ∈ l := by
  induction l with
  | nil => simp [insertDefect]
  | cons x t ih =>
    unfold insertDefect
    split
    · simp
    · simp only [List.mem_cons, ih]
      tauto

omit h in
theorem insertDefect_length (d : DefectEntry) (l : List DefectEntry) : (insertDefect d l).length = l.length + 1 := by
  induction l with
  | nil => rfl
  | cons x t ih =>
    unfold insertDefect
    split
    · rfl
    · simp [ih]

omit h in
theorem ascending_cons {e : DefectEntry} {t : List DefectEntry} : ascending (e :: t) = true ↔ (∀ f ∈ t, e.block < f.block) ∧ ascending t = true := by
  induction t generalizing e with
  | nil => simp [ascending]
  | cons x t ih =>
    have unfolded : ascending (e :: x :: t) = true ↔ e.block < x.block ∧ ascending (x :: t) = true := by simp [ascending]
    rw [unfolded, ih]
    simp only [List.forall_mem_cons]
    constructor
    · rintro ⟨less, all, rest⟩
      exact ⟨⟨less, fun f hf => less.trans (all f hf)⟩, all, rest⟩
    · rintro ⟨⟨less, -⟩, all, rest⟩
      exact ⟨less, all, rest⟩

omit h in
theorem sparesDistinct_cons {e : DefectEntry} {t : List DefectEntry} :
    sparesDistinct (e :: t) = true ↔ (∀ f ∈ t, f.spare ≠ e.spare) ∧ sparesDistinct t = true := by
  simp [sparesDistinct]

omit h in
theorem insertDefect_ascending {d : DefectEntry} {l : List DefectEntry} (sorted : ascending l = true) (fresh : ∀ e ∈ l, e.block ≠ d.block) :
    ascending (insertDefect d l) = true := by
  induction l with
  | nil => rfl
  | cons x t ih =>
    obtain ⟨above, rest⟩ := ascending_cons.mp sorted
    unfold insertDefect
    split
    · rename_i less
      refine ascending_cons.mpr ⟨List.forall_mem_cons.mpr ⟨less, fun f hf => less.trans (above f hf)⟩, sorted⟩
    · rename_i notLess
      have ne := fresh x (by simp)
      refine ascending_cons.mpr ⟨fun f hf => ?_, ih rest fun e he => fresh e (by simp [he])⟩
      rcases mem_insertDefect.mp hf with rfl | hf
      · omega
      · exact above f hf

omit h in
theorem insertDefect_sparesDistinct {d : DefectEntry} {l : List DefectEntry} (distinct : sparesDistinct l = true)
    (fresh : ∀ e ∈ l, e.spare ≠ d.spare) : sparesDistinct (insertDefect d l) = true := by
  induction l with
  | nil => rfl
  | cons x t ih =>
    obtain ⟨apart, rest⟩ := sparesDistinct_cons.mp distinct
    unfold insertDefect
    split
    · exact sparesDistinct_cons.mpr ⟨fresh, distinct⟩
    · refine sparesDistinct_cons.mpr ⟨fun f hf => ?_, ih rest fun e he => fresh e (by simp [he])⟩
      rcases mem_insertDefect.mp hf with rfl | hf
      · exact (fresh x (by simp)).symm
      · exact apart f hf

omit h in
/-- An entry for a block that had none, with a spare that was free, leaves the list as R109 requires. -/
theorem defectsOk_insertDefect {capacity spares n k : Nat} {l : List DefectEntry} (sound : defectsOk capacity spares l = true)
    (room : l.length < 128) (inRange : n < capacity) (fresh : lookupDefect n l = none) (free : freeSpare spares l = some k) :
    defectsOk capacity spares (insertDefect { block := n, spare := k } l) = true := by
  have notUsed : ∀ e ∈ l, e.spare ≠ k := by simpa using List.find?_some (p := fun k => !(l.any fun e => e.spare == k)) free
  have below : k < spares := List.mem_range.mp (List.mem_of_find?_eq_some free)
  have noEntry : ∀ e ∈ l, e.block ≠ n := by simpa [lookupDefect] using fresh
  simp only [defectsOk, Bool.and_eq_true, decide_eq_true_eq, List.all_eq_true] at sound ⊢
  obtain ⟨⟨⟨-, sorted⟩, distinct⟩, all⟩ := sound
  refine ⟨⟨⟨by rw [insertDefect_length]; omega, insertDefect_ascending sorted noEntry⟩, insertDefect_sparesDistinct distinct notUsed⟩, fun e he => ?_⟩
  rcases mem_insertDefect.mp he with rfl | he
  · exact ⟨inRange, below⟩
  · exact all e he

theorem Keeps.then_reassignAct (n : Nat) : Keeps calm s₀ (reassignAct n s).state := by
  unfold reassignAct
  split
  · exact h.then_endOrderJobPlain _
  · split
    · exact h.then_endOrderJobPlain _
    · split
      · exact h.then_endOrderJobPlain _
      · split
        · exact h.then_endOrderJobPlain _
        · split
          · exact h.then_endOrderJobPlain _
          · rename_i valid _ inRange entry room
            split
            · exact h.then_endOrderJobPlain _
            · rename_i k free
              have below : n < s.txe.capacity := not_le.mp inRange
              have inserted := h.then_txe { s.txe with defects := insertDefect { block := n, spare := k } s.txe.defects, labelModified := true } id
                fun ⟨zones, capacity, spares, defects, _, _, record, unread⟩ =>
                  ⟨zones, capacity, spares, defectsOk_insertDefect defects (not_le.mp room) below (by simpa using entry) free,
                    fun other => absurd (not_not.mp valid) other, fun _ => not_not.mp valid, record, unread⟩
              dsimp only
              split
              · rename_i i found
                refine Keeps.then_endOrderJobPlain ?_ _
                split
                · exact inserted.then_addDirty (findWindow_some found).2.2
                · exact inserted
              · exact inserted.then_endOrderJobPlain _

theorem Keeps.then_loadDefectAct : Keeps calm s₀ (loadDefectAct s).state := by
  unfold loadDefectAct
  split
  · exact h.then_endOrderJobOwned _
  · rename_i accepted
    split
    · exact h.then_endOrderJobOwned _
    · rename_i l image
      have valid : s.txe.labelStatus = .valid := by
        by_contra other
        simp only [defectLoadRefused] at accepted
        split_ifs at accepted
      have checked : defectsOk s.txe.capacity s.txe.spareCount l = true := by
        unfold defectImage at image
        split at image
        · split at image <;> cases image
          assumption
        · cases image
      refine Keeps.then_endOrderJobOwned (Keeps.then_freeAll (h.then_txe { s.txe with defects := l, labelModified := true } id ?_)) _
      exact fun ⟨zones, capacity, spares, _, _, _, record, unread⟩ =>
        ⟨zones, capacity, spares, checked, fun other => absurd valid other, fun _ => valid, record, unread⟩

theorem Keeps.then_takeOrderJob : Keeps calm s₀ (takeOrderJob s).state := by
  have staged : Keeps calm s₀ ((setStage .inSlot s).modTxe fun t => { t with orderWaits := false }) := (h.then_setStage _).then_txe _
  unfold takeOrderJob
  dsimp only
  split
  · exact (staged.then_takeJob _).then_readWork
  · exact staged.then_takeJob _
  · exact (staged.then_takeJob _).then_flushWork (.of_job rfl)
  · exact (staged.then_takeJob _).then_seekWork (.of_job rfl)
  · exact (staged.then_takeJob _).then_reassignAct _
  · exact (staged.then_takeJob _).then_beginLabelWrite (.of_job rfl)
  · exact (staged.then_takeJob _).then_loadDefectAct
  · exact staged

theorem Keeps.then_takeWaiting : Keeps calm s₀ (takeWaiting s).state := by
  unfold takeWaiting
  split
  · exact h.then_takeOrderJob
  · exact h

theorem Keeps.then_requestSlot : Keeps calm s₀ (requestSlot s).state := by
  unfold requestSlot
  split
  · exact h.then_takeOrderJob
  · exact ((h.then_setStage .waitSlot).then_txe { s.txe with orderWaits := true }).then_requestYield

end

end Sys2Proof.Machine

/-! What the cartridge sequencer keeps (R4 to R29). A lifecycle state in which the lock holds the cartridge is entered only from a state in
which the lock is engaged (`Locked`). -/

namespace Sys2Proof.Machine

set_option Elab.async false

variable {calm : Prop}

/-! ### Operations that leave the sequencer's record -/

section Frames

variable (s : State)

theorem endOrder_csq (o : Outcome) (d : Detail) (n : Nat) : (endOrder o d n s).state.csq = s.csq := by
  unfold endOrder
  split <;> rfl

theorem endPlain_csq (o : Outcome) : (endPlain o s).state.csq = s.csq := by
  unfold endPlain
  split
  · rfl
  · exact endOrder_csq _ _ _ _

theorem endLeaver_csq (o : Outcome) (d : Detail) : (endLeaver o d s).state.csq = s.csq := by
  unfold endLeaver
  split
  · exact endOrder_csq _ _ _ _
  · rfl

theorem answerButton_csq : (answerButton s).csq = s.csq := by
  unfold answerButton
  split <;> rfl

theorem endJobNow_csq : (endJobNow s).csq = s.csq := by
  unfold endJobNow
  dsimp only
  split <;> rfl

theorem passInterrupt_csq : (passInterrupt s).csq = s.csq := by
  unfold passInterrupt
  split <;> rfl

theorem servoRetract_csq : (servoRetract s).state.csq = s.csq := by
  obtain ⟨v, same, -⟩ := servoRetract_cases s
  rw [same]

theorem endJobAtReload_csq : (endJobAtReload s).state.csq = s.csq := by
  unfold endJobAtReload
  split
  · exact (endPlain_csq _ _).trans (endJobNow_csq s)
  · exact endJobNow_csq s

end Frames

section

variable {s₀ s : State} (h : Keeps calm s₀ s)
include h

/-! ### Entries -/

theorem Keeps.then_enterReady (locked : Locked s) : Keeps calm s₀ (enterReady s).state :=
  (h.then_enter .ready fun _ => locked).then_restartStandby.then_startFlushTimer

theorem Keeps.then_enterUnload (locked : Locked s) : Keeps calm s₀ (enterUnload s).state := by
  have entered := h.then_enter .unload fun _ => locked
  unfold enterUnload
  dsimp only
  split
  case h_1 | h_2 => exact entered
  all_goals exact entered.then_servoRetract

theorem Keeps.then_enterSpinDown (locked : Locked s) : Keeps calm s₀ (enterSpinDown s).state :=
  (h.then_enter .spinDown fun _ => locked).then_spindleBrake

theorem Keeps.then_loadHeads : Keeps calm s₀ (loadHeads s).state :=
  (h.then_csq { s.csq with loadAttempts := s.csq.loadAttempts + 1 }).then_servoLoad

theorem Keeps.then_spinGateCheck : Keeps calm s₀ (spinGateCheck s) := by
  unfold spinGateCheck
  split
  · rename_i asked
    exact ((h.then_csq { s.csq with spinUpRequest := false }).then_enter .spinUp fun _ => .of_lifecycle asked.1).then_spindleSpinUp
  · exact h

theorem Keeps.then_requestSpinUp : Keeps calm s₀ (requestSpinUp s) := (h.then_csq { s.csq with spinUpRequest := true }).then_spinGateCheck

theorem Keeps.then_enterCalibrate (locked : Locked s) : Keeps calm s₀ (enterCalibrate s).state :=
  (h.then_enter .calibrate fun _ => locked).then_passRequest _

theorem Keeps.then_calibrationCheck : Keeps calm s₀ (calibrationCheck s).state := by
  unfold calibrationCheck
  split
  · rename_i due
    split
    · split
      · exact h
      · exact h.then_enterCalibrate (.of_lifecycle due.1)
    · exact h.then_requestYield
  · exact h

theorem Keeps.then_setDue : Keeps calm s₀ (setDue s).state := h.then_svc _

theorem Keeps.then_endPassOrder (o : Outcome) : Keeps calm s₀ (endPassOrder o s).state := by
  unfold endPassOrder
  split
  · exact h
  · dsimp only
    split
    · exact (h.then_modCal _).then_endOwned _
    · exact h.then_svc _

theorem Keeps.then_dropPassOrder : Keeps calm s₀ (dropPassOrder s).state := by
  unfold dropPassOrder
  split
  · exact h.then_endPlain _
  · exact h

/-! ### Leaving READY -/

theorem Keeps.then_depart (c : Cause) (locked : Locked s) : Keeps calm s₀ (depart c s).state := by
  unfold depart
  dsimp only
  refine Keeps.andThen (Keeps.then_requestDeparture (Keeps.then_enter ?_ .flush fun _ => ?_)) fun _ k => k.then_dropPassOrder
  · split
    · exact (h.then_askEject _).then_csq _
    · exact h.then_csq _
  · split
    · exact locked
    · exact locked

theorem Keeps.then_returnToReady (locked : Locked s) : Keeps calm s₀ (returnToReady s).state :=
  (h.then_clearCauses.then_csq { s.csq with causes := noCauses, stopReason := s.csq.departureReason }).then_enterReady locked

theorem Keeps.then_cancelDeparture (locked : Locked s) : Keeps calm s₀ (cancelDeparture s).state :=
  (h.then_departureCancelled.then_returnToReady locked).then_requestYield

theorem Keeps.then_flushCompleteAct : Keeps calm s₀ (flushCompleteAct s).state := by
  unfold flushCompleteAct
  split
  · rename_i flush
    have locked : Locked (clearCauses (endJobNow s)) := .of_lifecycle (l := .flush) (by rw [clearCauses, modCsq_csq, endJobNow_csq, flush])
    refine (h.then_endJobNow.then_clearCauses.then_enterUnload locked).andThen fun s1 k => ?_
    split
    · exact k.then_endPlain _
    · exact k
  · exact h

omit h in
/-- The departure that fails or is held ends its order with the sequencer's record as it was. -/
theorem locked_after_endLeaver {o : Outcome} {d : Detail} (flush : s.csq.lifecycle = .flush) :
    Locked (clearEject (endLeaver o d (answerButton s)).state) :=
  .of_lifecycle (l := .flush) (by rw [clearEject, modCsq_csq, endLeaver_csq, answerButton_csq, flush])

theorem Keeps.then_flushFailedAct (d : Detail) : Keeps calm s₀ (flushFailedAct d s).state := by
  unfold flushFailedAct
  split
  · rename_i flush
    exact (h.then_answerButton.then_endLeaver _ _).then_clearEject.then_returnToReady (locked_after_endLeaver flush)
  · exact h

theorem Keeps.then_flushHeldAct : Keeps calm s₀ (flushHeldAct s).state := by
  unfold flushHeldAct
  split
  · rename_i flush
    have ended := (h.then_answerButton.then_endLeaver .held .noDetail).then_clearEject
    rw [andThen_state]
    dsimp only
    split
    · exact (ended.then_csq _).then_sgc _
    · exact ended.then_returnToReady (locked_after_endLeaver flush)
  · exact h

/-! ### Ejection -/

theorem Keeps.then_refuseEjection : Keeps calm s₀ (refuseEjection s).state := by
  have refused : Keeps calm s₀ (clearEject (if s.csq.ejectByButton then latch .ejectRequest s else s)) := by
    refine Keeps.then_clearEject ?_
    split
    · exact h.then_latch _
    · exact h
  unfold refuseEjection
  generalize clearEject (if s.csq.ejectByButton then latch .ejectRequest s else s) = s1 at refused
  dsimp only
  split
  · exact refused.then_endOrder _ _ _
  · split
    · exact refused.then_endOrder _ _ _
    · exact refused

theorem Keeps.then_cartridgeGone : Keeps calm s₀ (cartridgeGone s).state := by
  have gone : Keeps calm s₀ (latch .ejected (freeAll (forgetCartridge ((enter .empty (pulseStop s)).modCsq fun c =>
      { c with ejectPending := false, ejectByButton := false, writeProtected := false })))) := by
    refine Keeps.then_latch (Keeps.then_freeAll (Keeps.then_forgetCartridge ?_)) _
    exact (h.then_pulseStop.then_enter .empty fun locked => by cases locked).then_csq _
  unfold cartridgeGone
  dsimp only
  split
  · exact gone.then_endOrder _ _ _
  · exact gone

theorem Keeps.then_senseGone : Keeps calm s₀ (senseGone s).state := by
  unfold senseGone
  split
  · exact h.then_cartridgeGone
  · exact h

theorem Keeps.then_beginEjection : Keeps calm s₀ (beginEjection s).state := by
  unfold beginEjection
  split
  · exact h.then_refuseEjection
  · split
    · exact ((((h.then_csq { s.csq with spinUpRequest := false }).then_startRound .first).then_endAwaited .notReady).then_endStopDone).then_senseGone
    · exact h

theorem Keeps.then_retryRound : Keeps calm s₀ (retryRound s).state := (h.then_startRound _).then_senseGone

theorem Keeps.then_ejectCheckAct : Keeps calm s₀ (ejectCheckAct s).state := by
  unfold ejectCheckAct
  split
  · rename_i due
    have checked := h.then_csq { s.csq with ejectCheck := none }
    dsimp only
    split
    · exact checked.then_cartridgeGone
    · split
      · exact checked.then_firePulse due.2
      · have jammed := (checked.then_latch .jammed).then_enter .jammed fun locked => by cases locked
        split
        · exact jammed.then_endOrder _ _ _
        · exact jammed
  · exact h

theorem Keeps.then_stopRetryRound : Keeps calm s₀ (stopRetryRound s).state :=
  ((h.then_pulseStop.then_csq { s.csq with oneShot := none, ejectCheck := none } fun interlock => ⟨interlock.1, fun runs => by cases runs⟩).then_enter
    .jammed fun locked => by cases locked).then_endPlain _

/-! ### Faults -/

theorem Keeps.then_endByEmergency : Keeps calm s₀ (endByEmergency s).state := by
  unfold endByEmergency
  dsimp only
  split
  · exact (h.then_modCal _).then_endOwned _
  · exact (h.then_modCal _).then_endPlain _

theorem Keeps.then_emergency (locked : Locked s) : Keeps calm s₀ (emergency s).state := by
  have retracted := h.then_endJobNow.then_passInterrupt.then_servoRetract
  have same : (servoRetract (passInterrupt (endJobNow s))).state.csq = s.csq :=
    (servoRetract_csq _).trans ((passInterrupt_csq _).trans (endJobNow_csq s))
  unfold emergency
  generalize servoRetract (passInterrupt (endJobNow s)) = a at retracted same
  have entered := retracted.then_clearCauses.then_clearEject.then_dropCarried.then_faultStop.then_enter .unload
    fun _ => show Locked a.state from locked.of_csq same
  exact entered.then_endByEmergency

theorem Keeps.then_endJobAtReload : Keeps calm s₀ (endJobAtReload s).state := by
  unfold endJobAtReload
  split
  · exact h.then_endJobNow.then_endPlain _
  · exact h.then_endJobNow.then_waitAgain

theorem Keeps.then_reload (locked : Locked s) : Keeps calm s₀ (reload s).state := by
  have ended := h.then_passInterrupt.then_endJobAtReload
  have same : (endJobAtReload (passInterrupt s)).state.csq = s.csq := (endJobAtReload_csq _).trans (passInterrupt_csq s)
  unfold reload
  generalize endJobAtReload (passInterrupt s) = a at ended same
  have entered := (ended.then_csq
    { a.state.csq with reloads := a.state.csq.reloads + 1, returnState := returnFor a.state.csq.lifecycle, loadAttempts := 0 }).then_enter .headLoad
    fun _ => show Locked a.state from locked.of_csq same
  exact entered.then_loadHeads.then_endPassOrder .seekError

theorem Keeps.then_servoLossAct (locked : Locked s) : Keeps calm s₀ (servoLossAct s).state := by
  unfold servoLossAct
  split
  · exact h.then_reload locked
  · exact (h.then_latch _).then_emergency locked

theorem Keeps.then_loadFailedAct (locked : Locked s) : Keeps calm s₀ (loadFailedAct s).state := by
  unfold loadFailedAct
  split
  · exact h.then_loadHeads
  · exact ((h.then_latch _).then_faultStop.then_enterSpinDown locked).then_endAwaited _

theorem Keeps.then_parkedAct (c : RetractCause) : Keeps calm s₀ (parkedAct c s).state := by
  unfold parkedAct
  split
  case h_1 now => exact h.then_enterSpinDown (.of_lifecycle now)
  case h_2 now =>
    split
    · exact h
    · exact h.then_loadFailedAct (.of_lifecycle now)
  case h_3 now | h_4 now | h_5 now | h_6 now =>
    split
    · exact h.then_servoLossAct (.of_lifecycle now)
    · exact h
  all_goals exact h

theorem Keeps.then_lockLostAct : Keeps calm s₀ (lockLostAct s).state := by
  unfold lockLostAct
  split
  case h_1 now | h_2 now | h_3 now => exact (h.then_latch _).then_emergency (.of_lifecycle now)
  case h_4 | h_5 => exact (h.then_csq { s.csq with grace := if s.csq.grace.isSome then s.csq.grace else some Config.graceTime }).then_mediaWatch
  all_goals exact h

theorem Keeps.then_graceAct : Keeps calm s₀ (graceAct s).state := by
  have ended := h.then_csq { s.csq with grace := none }
  unfold graceAct
  split
  · dsimp only
    split
    case h_1 now | h_2 now | h_3 now => exact (ended.then_latch _).then_emergency (.of_lifecycle now)
    · exact ended
  · exact h

theorem Keeps.then_parkAct : Keeps calm s₀ (parkAct s).state := by
  unfold parkAct
  split
  case h_1 now => exact h.then_depart _ (.of_lifecycle now)
  case h_2 => exact h.then_joinDeparture _
  case h_3 | h_4 => exact h.then_setReason _
  all_goals exact h

omit h in
theorem spindleStopDriving_csq : (spindleStopDriving s).state.csq = s.csq := by
  unfold spindleStopDriving
  split <;> rfl

theorem Keeps.then_retractAct : Keeps calm s₀ (retractAct s).state := by
  unfold retractAct
  split
  case h_1 now =>
    have same := spindleStopDriving_csq (s := faultStop s)
    exact (h.then_faultStop.then_spindleStopDriving.then_enterSpinDown (.of_lifecycle (l := .spinUp) (by rw [same]; exact now))).then_endAwaited _
  case h_2 now | h_3 now | h_4 now | h_5 now | h_6 now => exact h.then_emergency (.of_lifecycle now)
  case h_7 | h_8 => exact h.then_faultStop
  all_goals exact h

/-! ### Reports of the other blocks -/

theorem Keeps.then_spinUpCompleteAct : Keeps calm s₀ (spinUpCompleteAct s).state := by
  unfold spinUpCompleteAct
  split
  · rename_i now
    exact ((h.then_csq { s.csq with loadAttempts := 0, reloads := 0, returnState := .nowhere }).then_enter .headLoad
      fun _ => .of_lifecycle now).then_loadHeads
  · exact h

theorem Keeps.then_spinUpFailedAct : Keeps calm s₀ (spinUpFailedAct s).state := by
  unfold spinUpFailedAct
  split
  · rename_i now
    exact ((h.then_latch _).then_faultStop.then_enterSpinDown (.of_lifecycle now)).then_endAwaited _
  · exact h

theorem Keeps.then_followReachedAct : Keeps calm s₀ (followReachedAct s).state := by
  unfold followReachedAct
  split
  · rename_i now
    have reached := h.then_csq { s.csq with returnState := .nowhere }
    have locked : Locked (s.modCsq fun c => { c with returnState := .nowhere }) := .of_lifecycle now
    dsimp only
    split
    case h_1 | h_2 => exact (reached.then_enter .labelRead fun _ => locked).then_takeLabelRead
    · exact reached.then_enterReady locked
    · exact reached.then_enter .flush fun _ => locked
  · exact h

theorem Keeps.then_labelReadEndedAct : Keeps calm s₀ (labelReadEndedAct s).state := by
  unfold labelReadEndedAct
  split
  · rename_i now
    split
    · exact h.then_enterCalibrate (.of_lifecycle now)
    · exact h.then_enterReady (.of_lifecycle now)
  · exact h

theorem Keeps.then_passEndedAct : Keeps calm s₀ (passEndedAct s).state := by
  unfold passEndedAct
  split
  · rename_i now
    exact (h.then_enterReady (.of_lifecycle now)).then_endPassOrder _
  · exact h

theorem Keeps.then_rotationPersistsAct : Keeps calm s₀ (rotationPersistsAct s).state := by
  unfold rotationPersistsAct
  split
  · exact (h.then_latch _).then_dropCarried.then_endLeaver _ _
  · exact h

theorem Keeps.then_stopConfirmedAct : Keeps calm s₀ (stopConfirmedAct s).state := by
  unfold stopConfirmedAct
  split
  · rename_i now
    have stopped := (h.then_dropCarried.then_enter .stopped fun _ => .of_lifecycle now).then_latchInserted.then_attachLeaver
    dsimp only
    split
    · exact stopped.then_beginEjection
    · refine (stopped.then_endLeaver _ _).andThen fun _ k => ?_
      dsimp only [done_state]
      split
      · exact k.then_requestSpinUp
      · exact k
  · exact h

/-! ### Sensors -/

theorem Keeps.then_presenceAct (present : Bool) : Keeps calm s₀ (presenceAct present s).state := by
  have sensed := h.then_pins { s.pins with present := present }
  unfold presenceAct
  dsimp only
  split
  · exact (sensed.then_enter .seating fun locked => by cases locked).then_csq _
  · exact sensed.then_enter .empty fun locked => by cases locked
  · exact sensed.then_cartridgeGone
  · exact sensed.then_cartridgeGone
  · exact sensed

theorem Keeps.then_debounceAct (tab : Bool) : Keeps calm s₀ (debounceAct tab s).state := by
  unfold debounceAct
  split
  · rename_i due
    have locked : Keeps calm s₀ ((s.modPins fun p => { p with tab := tab }).modCsq fun c => { c with lockEngaged := true, writeProtected := tab }) := by
      refine (h.then_pins { s.pins with tab := tab }).then_csq _ ?_
      exact fun interlock => ⟨fun free => (nomatch free), fun runs => absurd (due.2.symm.trans (interlock.2 runs).1) (by decide)⟩
    have stopped := ((locked.then_latch .inserted).then_enter .stopped fun _ _ => rfl).then_setReason .insert
    dsimp only
    split
    · exact stopped.then_requestSpinUp
    · exact stopped
  · exact h

theorem Keeps.then_pressAct : Keeps calm s₀ (pressAct s).state := by
  unfold pressAct
  split
  case h_1 | h_2 => exact h
  case h_3 => exact ((h.then_askEject true).then_csq { s.csq with ejectPending := true, ejectByButton := s.csq.ejectByButton || true, spinUpRequest := false }
    ).then_endAwaited _ |>.then_beginEjection
  case h_10 now => exact h.then_depart _ (.of_lifecycle now)
  case h_11 => exact h.then_joinDeparture _
  case h_12 now =>
    rw [done_state]
    split
    · exact h.then_pulseRequest now
    · exact h
  case h_13 => exact h.then_retryRound
  all_goals exact h.then_askEject _

theorem Keeps.then_buttonAct : Keeps calm s₀ (buttonAct s).state := by
  have pressed := h.then_csq { s.csq with buttonReady := false }
  unfold buttonAct
  split
  · dsimp only
    split
    · exact pressed.then_latch _
    · exact pressed.then_pressAct
  · exact h

theorem Keeps.then_standbyAct : Keeps calm s₀ (standbyAct s).state := by
  unfold standbyAct
  split
  · rename_i due
    exact h.then_depart _ (.of_lifecycle due.2)
  · exact h

/-! ### Orders -/

theorem Keeps.then_proceed : Keeps calm s₀ (proceed s).state := by
  unfold proceed
  split
  case h_1 | h_2 =>
    split
    · exact h.then_endOrder _ _ _
    · exact h.then_requestSlot
  case h_3 =>
    split
    · exact h.then_endPlain _
    · split
      · exact h.then_endPlain _
      · exact h.then_requestSlot
  case h_4 | h_5 | h_6 => exact h.then_requestSlot
  case h_7 =>
    split
    · exact h.then_endOwned _
    · exact h.then_requestSlot
  case h_8 => exact (h.then_setStage _).then_setDue
  case h_9 => exact h

theorem Keeps.then_mediumOrder : Keeps calm s₀ (mediumOrder s).state := by
  unfold mediumOrder
  split
  case h_1 | h_2 | h_3 | h_4 | h_5 | h_6 => exact h.then_endPlain _
  case h_7 =>
    split
    · exact (h.then_setStage _).then_requestSpinUp
    · exact h.then_endPlain _
  case h_8 | h_9 | h_10 | h_11 => exact h.then_setStage _
  case h_12 => exact h.then_proceed
  case h_13 now =>
    split
    · exact (h.then_cancelDeparture (.of_lifecycle now)).then_proceed
    · exact h.then_endPlain _

theorem Keeps.then_startByState : Keeps calm s₀ (startByState s).state := by
  unfold startByState
  split
  case h_1 => exact (h.then_setStage _).then_requestSpinUp
  case h_2 | h_3 | h_4 | h_5 => exact h.then_setStage _
  case h_6 => exact h.then_endPlain _
  case h_7 now =>
    split
    · exact (h.then_cancelDeparture (.of_lifecycle now)).then_endPlain _
    · exact h.then_endPlain _
  all_goals exact h.then_endPlain _

theorem Keeps.then_startOrder : Keeps calm s₀ (startOrder s).state := by
  unfold startOrder
  split
  · exact h.then_endPlain _
  · exact (h.then_csq { s.csq with faultHold := false }).then_startByState

theorem Keeps.then_stopOrder : Keeps calm s₀ (stopOrder s).state := by
  unfold stopOrder
  split
  case h_1 | h_2 | h_3 | h_4 => exact h.then_endPlain _
  case h_5 => exact (h.then_csq { s.csq with spinUpRequest := false, stopReason := reasonAfter .stopOrder s.csq.stopReason }).then_endPlain _
  case h_6 | h_7 | h_8 | h_9 => exact h.then_setStage _
  case h_10 now => exact (h.then_setStage _).then_depart _ (.of_lifecycle now)
  case h_11 => exact (h.then_setStage _).then_joinDeparture _
  case h_12 | h_13 => exact (h.then_setStage _).then_csq _

theorem Keeps.then_ejectByState : Keeps calm s₀ (ejectByState s).state := by
  unfold ejectByState
  split
  case h_1 => exact (h.then_setStage _).then_beginEjection
  case h_2 | h_3 | h_4 | h_5 => exact h.then_setStage _
  case h_6 now => exact (h.then_setStage _).then_depart _ (.of_lifecycle now)
  case h_7 => exact (h.then_setStage _).then_joinDeparture _
  case h_8 | h_9 => exact (h.then_setStage _).then_askEject _
  case h_10 => exact (h.then_setStage _).then_retryRound
  all_goals exact h.then_endPlain _

theorem Keeps.then_discardFlushJob : Keeps calm s₀ (discardFlushJob s).state := by
  unfold discardFlushJob
  split
  · exact h.then_closeJob
  · exact h

theorem Keeps.then_discardAct : Keeps calm s₀ (discardAct s).state := by
  unfold discardAct
  split
  · refine h.then_discardFlushJob.then_discardBlocks.then_txe _ id ?_
    exact fun ⟨zones, capacity, spares, defects, empty, _, record, unread⟩ =>
      ⟨zones, capacity, spares, defects, empty, fun modified => (nomatch modified), record, unread⟩
  · exact h

theorem Keeps.then_ejectOrder (discard : Bool) : Keeps calm s₀ (ejectOrder discard s).state := by
  unfold ejectOrder
  split
  · exact h.then_endPlain _
  · split
    · exact h.then_endPlain _
    · split
      · exact h.then_endPlain _
      · refine Keeps.andThen ?_ fun _ k => k.then_ejectByState
        split
        · exact h.then_discardAct
        · exact h

theorem Keeps.then_removalOrder (prevent : Bool) : Keeps calm s₀ (removalOrder prevent s).state :=
  (h.then_csq { s.csq with removalPrevented := prevent }).then_endPlain _

theorem Keeps.then_loadDefects : Keeps calm s₀ (loadDefects s).state := by
  unfold loadDefects
  split
  · exact h.then_endOwned _
  · split
    · exact h.then_requestSlot
    · exact h.then_endOwned _

theorem Keeps.then_resumeWaiting : Keeps calm s₀ (resumeWaiting s).state := by
  unfold resumeWaiting
  split
  · split
    · split
      · exact h.then_startOrder
      · exact h.then_stopOrder
      · exact h.then_ejectByState
      · exact h.then_loadDefects
      all_goals exact h.then_mediumOrder
    · exact h
  · exact h

theorem Keeps.then_leaveFor (c : Cause) : Keeps calm s₀ (leaveFor c s).state := by
  unfold leaveFor
  split
  case h_1 now => exact h.then_depart _ (.of_lifecycle now)
  case h_2 => exact h.then_joinDeparture _
  all_goals exact h

theorem Keeps.then_takeCarried : Keeps calm s₀ (takeCarried s).state := by
  unfold takeCarried
  split
  · exact h
  · exact h.then_dropCarried.then_leaveFor _

theorem Keeps.then_readyEnteredAct (eject : Bool) : Keeps calm s₀ (readyEnteredAct eject s).state := by
  have resumed := h.then_takeWaiting.then_takeCarried.then_resumeWaiting
  unfold readyEnteredAct
  dsimp only [andThen_state]
  split
  · exact (resumed.then_leaveFor _).then_calibrationCheck
  · exact resumed.then_calibrationCheck

theorem Keeps.then_flushResumedAct : Keeps calm s₀ (flushResumedAct s).state :=
  h.then_requestDeparture.then_takeCarried.then_resumeWaiting

end

end Sys2Proof.Machine

/-! What the supply monitor and the link interface keep (R94, R158 to R182). -/

namespace Sys2Proof.Machine

set_option Elab.async false

variable {calm : Prop}

section

variable {s₀ s : State} (h : Keeps calm s₀ s)
include h

/-! ### The monitor -/

theorem Keeps.then_modChannel (c : Channel) (f : ChannelRecord → ChannelRecord) : Keeps calm s₀ (modChannel c f s) := h.then_smn _

theorem Keeps.then_holdEndedAct : Keeps calm s₀ (holdEndedAct s).state := by
  have ended := h.then_txe { s.txe with holdTimer := none }
  unfold holdEndedAct
  dsimp only
  split
  · exact (ended.then_sgc { s.sgc with heldDeparture := false }).then_requestDeparture
  · exact ended

theorem Keeps.then_endCondition (c : Channel) : Keeps calm s₀ (endCondition c s).state := by
  have ended := h.then_modChannel c fun r => { r with active := .neither, inRange := 0 }
  unfold endCondition
  dsimp only
  split
  · split
    · exact ended
    · exact ended.then_holdEndedAct
  · exact ended.then_spinGateCheck
  · exact ended.then_spinGateCheck
  · exact ended
  · exact ended

theorem Keeps.then_endIfActive (c : Channel) : Keeps calm s₀ (endIfActive c s).state := by
  unfold endIfActive
  split
  · exact h
  · exact h.then_endCondition c

theorem Keeps.then_activate (c : Channel) (x : Side) : Keeps calm s₀ (activate c x s).state := by
  refine (h.then_endIfActive c).andThen fun s1 k => ?_
  have active := (k.then_modChannel c fun r => { r.flag x with active := x, inRange := 0 }).then_latch .monitor
  dsimp only
  split
  · exact (active.then_latch _).then_mediaWatch
  all_goals exact active

theorem Keeps.then_countInRange (c : Channel) (x : Side) : Keeps calm s₀ (countInRange c x s).state := by
  unfold countInRange
  split
  · exact h
  · split
    · exact h.then_smn _
    · split
      · exact h.then_endCondition c
      · exact h.then_smn _

theorem Keeps.then_armedReading (c : Channel) (x : Side) : Keeps calm s₀ (armedReading c x s).state := by
  have counted := h.then_modChannel c (ChannelRecord.run x)
  unfold armedReading
  dsimp only
  split
  · exact counted.then_activate c x
  · exact counted.then_countInRange c x

theorem Keeps.then_compareReading (c : Channel) (reading : Nat) : Keeps calm s₀ (compareReading c reading s).state := by
  have recorded := h.then_modChannel c fun r => { r with latest := reading }
  unfold compareReading
  dsimp only
  split
  · exact recorded.then_armedReading c _
  · exact (recorded.then_modChannel c ChannelRecord.clearRun).then_endIfActive c

theorem Keeps.then_driftCheck (c : Channel) (reading : Nat) : Keeps calm s₀ (driftCheck c reading s).state := by
  unfold driftCheck
  split
  · exact h.then_setDue
  · exact h

theorem Keeps.then_completeRound (c : Channel) : Keeps calm s₀ (completeRound c s).state := by
  unfold completeRound
  split
  · exact h.then_smn _
  · exact h

theorem Keeps.then_monitorReadingAct (reading : Nat) : Keeps calm s₀ (monitorReadingAct reading s).state :=
  (((h.then_smn { s.smn with slot := s.smn.slot.next, slotTimer := Config.slotTime }).then_compareReading _ reading).then_driftCheck _ reading
    ).then_completeRound _

theorem Keeps.then_replaceLimits (c : Channel) (l : Limits) : Keeps calm s₀ (replaceLimits c l s).state :=
  ((h.then_modChannel c fun r => r.clearRun).then_endIfActive c).then_modChannel c fun r => { r with limits := l }

theorem Keeps.then_loadMonitor (t : List Limits) : Keeps calm s₀ (loadMonitor t s).state :=
  ((((h.then_replaceLimits .v12 _).andThen fun _ k => k.then_replaceLimits .v5 _).andThen fun _ k => k.then_replaceLimits .temp _).andThen
    fun _ k => k.then_replaceLimits .ispin _).andThen fun _ k => k.then_replaceLimits .iact _

/-! ### Acceptance and dispatch -/

theorem Keeps.then_acceptOrder (tag : Nat) (k : OrderKind) : Keeps calm s₀ (acceptOrder tag k s).state := by
  rcases acceptOrder_cases tag k s with refused | busy | ⟨queue, places, -, -, accepted, -⟩
  · rw [refused]
    exact h.then_answer _
  · rw [busy]
    exact h.then_answer _
  · rw [accepted]
    exact (h.then_joinQueue _ queue places).then_requestYield

theorem Keeps.then_clearCounters (b : Byte) : Keeps calm s₀ (clearCounters b s) :=
  Keeps.then_sgc (Keeps.then_svc (Keeps.then_txe (h.then_lif _) _) _) _

theorem Keeps.then_applyClear (x : ClearSet) : Keeps calm s₀ (applyClear x s) :=
  Keeps.then_clearCounters (Keeps.then_smn (h.then_lif _) _) _

theorem Keeps.then_loadProfile (l : List Byte) : Keeps calm s₀ (loadProfile l s).state := by
  unfold loadProfile
  split
  · exact (h.then_svc { s.svc with profile := profileOf l }).then_endOwned _
  · exact h.then_endOwned _

/-- Only an image whose eight entries are in range replaces the bias entries (R91). -/
theorem Keeps.then_loadBias (l : List Byte) : Keeps calm s₀ (loadBias l s).state := by
  unfold loadBias
  split
  · rename_i checked
    refine (h.then_svc { s.svc with bias := biasOfImage l } fun ⟨command, integrator, _⟩ => ⟨command, integrator, ?_⟩).then_endOwned _
    simp only [biasOk, Bool.and_eq_true, List.all_eq_true, decide_eq_true_eq] at checked
    exact checked.2
  · exact h.then_endOwned _

theorem Keeps.then_replaceZones {t : ZoneTable} (checked : zoneTableOk t = true) : Keeps calm s₀ (replaceZones t s) := by
  have forgotten : Keeps calm s₀
      (forgetCartridge (s.modTxe fun x => { x with zones := t, capacity := capacityOf t, spareCount := spareCountOf t })) :=
    h.trans ⟨fun _ => id, id, id, id, id, fun _ => ⟨checked, rfl, rfl, rfl, fun _ => rfl, by simp [forgetCartridge, setLabel],
      by simp [forgetCartridge, setLabel], fun _ => rfl⟩, id, id⟩
  exact forgotten.then_freeAll

theorem Keeps.then_loadZones (l : List Byte) : Keeps calm s₀ (loadZones l s).state := by
  unfold loadZones
  split
  · exact h.then_endOwned _
  · split
    · exact h.then_endOwned _
    · split
      · rename_i checked
        exact (h.then_replaceZones checked).then_endOwned _
      · exact h.then_endOwned _

theorem Keeps.then_loadLimits (l : List Byte) : Keeps calm s₀ (loadLimits l s).state := by
  unfold loadLimits
  split
  · exact (h.then_loadMonitor _).andThen fun _ k => k
  · exact h.then_endOwned _

theorem Keeps.then_loadLabel (l : List Byte) : Keeps calm s₀ (loadLabel l s).state := by
  unfold loadLabel
  split
  · exact h.then_endOwned _
  · split
    · exact h.then_endOwned _
    · split
      · exact h.then_endOwned _
      · rename_i examined
        split
        · exact h.then_endOwned _
        · refine Keeps.then_endOwned (Keeps.then_txe h _ (by exact id) ?_) _
          refine fun ⟨zones, capacity, spares, defects, empty, modified, _, _⟩ =>
            ⟨zones, capacity, spares, defects, empty, fun now => ?_, fun _ => rfl, fun unread => absurd unread examined⟩
          rcases Bool.or_eq_true _ _ ▸ now with now | valid
          · exact modified now
          · exact eq_of_beq valid

theorem Keeps.then_handOver (table : Nat) : Keeps calm s₀ (handOver table s).state := by
  unfold handOver
  dsimp only
  split
  · exact h.then_loadProfile _
  · exact h.then_loadBias _
  · exact h.then_loadZones _
  · exact h.then_loadLimits _
  · exact h.then_loadDefects
  · exact h.then_loadLabel _
  · exact h.then_endPlain _

theorem Keeps.then_setOrder (i : SettingsImage) : Keeps calm s₀ (setOrder i s).state := by
  unfold setOrder
  split
  · exact (h.then_lif { s.lif with settings := settingsOf i }).then_restartStandby.then_endPlain _
  · exact h.then_endPlain _

theorem Keeps.then_route (k : OrderKind) : Keeps calm s₀ (route k s).state := by
  unfold route
  split
  · exact h.then_startOrder
  · exact h.then_stopOrder
  · exact h.then_ejectOrder _
  · exact h.then_removalOrder _
  case h_12 => exact h.then_setStage _
  case h_13 => exact (h.then_setStage _).then_lif _
  case h_14 => exact h.then_setOrder _
  all_goals exact h.then_mediumOrder

theorem Keeps.then_beginOrder (o : Order) : Keeps calm s₀ (beginOrder o s).state := by
  unfold beginOrder
  split
  · exact h.then_endOrder _ _ _
  · exact h.then_route _

omit h in
theorem dispatchable_mem {o : Order} (found : dispatchable s = some o) : o ∈ s.lif.orderQueue := by
  unfold dispatchable at found
  split at found
  · exact List.mem_of_find?_eq_some found
  · exact List.mem_of_mem_head? found

theorem Keeps.then_dispatchAct : Keeps calm s₀ (dispatchAct s).state := by
  rcases dispatchAct_cases s with same | ⟨o, idle, found, begun⟩
  · rw [same]
    exact h
  · rw [begun]
    exact (h.then_makeExecuting o idle (dispatchable_mem found)).then_beginOrder o

/-! ### Data frames from the host -/

theorem Keeps.then_windowFilled (i : Nat) : Keeps calm s₀ (windowFilled i s).state := by
  unfold windowFilled
  split
  · rename_i job
    split
    · exact h.then_modJob _
    · exact h.then_beginSegmentFlush _ _ (.of_job job)
  · exact h.then_attachFree _

/-- The block's bytes are stored and it joins both sets of a segment that holds its window. -/
theorem Keeps.then_placed_block {i n : Nat} {payload : List Byte} (given : CacheSound s → i < s.sgc.segments.length)
    (order : CacheSound s → (segmentAt s i).attachment = .order) :
    Keeps calm s₀ (makeRecent i (addDirty i n (dropBlock i n (storeBlock i n payload s)))) := by
  refine h.then_onlySgc ?_ fun cache => ?_
  · unfold dropBlock dropWantedIfClean
    split <;> rfl
  · have hi := given cache
    have kept : (dropBlock i n (storeBlock i n payload s)).sgc.segments =
        s.sgc.segments.modify i fun g => { g with valid := eraseNat (n % 16) g.valid, dirty := eraseNat (n % 16) g.dirty } := by
      unfold dropBlock dropWantedIfClean
      split <;> rfl
    have holds : (segmentAt (dropBlock i n (storeBlock i n payload s)) i).holdsWindow = true := by
      have attached := order cache
      rw [segmentAt_eq_getElem hi] at attached
      simp [segmentAt, kept, hi, Segment.holdsWindow, attached]
    refine (((cache.then_storeBlock i n payload).then_dropBlock i n).then_addDirty holds).then_makeRecent ?_
    simpa [addDirty, modSegment, kept] using hi

theorem Keeps.then_placeBlock {i n : Nat} {payload : List Byte} (given : CacheSound s → i < s.sgc.segments.length)
    (order : CacheSound s → (segmentAt s i).attachment = .order) : Keeps calm s₀ (placeBlock i n payload s).state := by
  have placed := h.then_placed_block (n := n) (payload := payload) given order
  unfold placeBlock
  extract_lets s1 s2 through s3 a
  have counted : Keeps calm s₀ s2 := Keeps.then_lif placed _
  have blocks : Keeps calm s₀ s3 := by
    simp only [s3]
    split
    · exact counted
    · exact counted.then_setBlocks _
  refine Keeps.andThen (a := a) ?_ fun s4 k => ?_
  · simp only [a]
    split
    · exact blocks.then_windowFilled _
    · exact blocks
  · split
    · exact k.then_endOrderJob _ _ _
    · exact k

/-- A place asked for is a segment of the order, or there is none. -/
theorem Keeps.then_askPlace {n : Nat} {a : Act} {x : Option Nat} (asked : askPlace n s = (a, x)) : Keeps calm s₀ a.state := by
  unfold askPlace at asked
  split at asked
  · rename_i given
    cases asked
    exact h.then_asked given
  · rename_i given
    cases asked
    split
    · rename_i flushing
      obtain ⟨j, job, -⟩ := Option.map_eq_some_iff.mp flushing
      exact (h.then_asked given).then_beginSegmentFlush _ _ (.of_job job)
    · exact h.then_asked given
  · rename_i given
    cases asked
    exact h.then_asked given

omit h in
theorem askPlace_given {n i : Nat} {a : Act} (asked : askPlace n s = (a, some i)) :
    ∃ s1, a = done s1 ∧ askSegment n .order false s = (s1, .given i) := by
  unfold askPlace at asked
  split at asked <;> cases asked
  exact ⟨_, rfl, ‹_›⟩

theorem Keeps.then_writeFrame (n : Nat) (payload : List Byte) : Keeps calm s₀ (writeFrame n payload s).state := by
  unfold writeFrame
  split
  · split
    · rename_i i asked
      obtain ⟨s1, rfl, given⟩ := askPlace_given asked
      have place : CacheSound s1 → i < s1.sgc.segments.length ∧ (segmentAt s1 i).attachment = .order := askSegment_given given
      have answered := (h.then_asked given).then_answer handAccept
      exact answered.then_placeBlock (fun cache => (place cache).1) fun cache => (place cache).2
    · rename_i asked
      exact (h.then_askPlace asked).then_answer _
  · exact h.then_answer _

theorem Keeps.then_tableFrame (table frames : Nat) (payload : List Byte) : Keeps calm s₀ (tableFrame table frames payload s).state := by
  have gathered : Keeps calm s₀ ((answer handAccept s).modLif fun l =>
      { l with expectedIndex := l.expectedIndex + 1, loadImage := l.loadImage ++ [payload] }) := (h.then_answer _).then_lif _
  unfold tableFrame
  dsimp only
  split
  · exact gathered.then_handOver _
  · exact gathered

theorem Keeps.then_dataOutAct (tag index : Nat) (payload : List Byte) : Keeps calm s₀ (dataOutAct tag index payload s).state := by
  unfold dataOutAct
  split
  · exact h.then_writeFrame _ _
  · split
    · exact h.then_tableFrame _ _ _
    · exact h.then_answer _

theorem Keeps.then_partialAct (f : PartialFrame) : Keeps calm s₀ (partialAct f s).state := by
  unfold partialAct
  split
  · exact h
  · split
    · exact h
    · split
      · split
        · rename_i asked
          obtain ⟨s1, rfl, given⟩ := askPlace_given asked
          rw [done_andThen, done_state]
          split
          · exact h.then_asked given
          · exact ((h.then_asked given).then_storeBlock _ _ _).then_dropBlock _ _
        · rename_i asked
          exact h.then_askPlace asked
      · exact h

theorem Keeps.then_badFrameAct (f : PartialFrame) : Keeps calm s₀ (badFrameAct f s).state :=
  (h.then_lif { s.lif with crcDiscards := satAdd 255 s.lif.crcDiscards 1 }).then_partialAct f

/-! ### Polls and handshakes -/

theorem Keeps.then_pollAct : Keeps calm s₀ (pollAct s) := by
  have released := h.then_linkRelease
  unfold pollAct
  dsimp only
  split
  · exact released.then_sendFrame _ _
  · split
    · exact released.then_linkTake.then_sendFrame _ _
    · split
      · exact released.then_sendFrame _ _
      · exact released.then_sendFrame _ _

theorem Keeps.then_deliver (p : Nat) : Keeps calm s₀ (deliver p s).state := by
  have counted := h.then_setBlocks (p + 1)
  unfold deliver
  split
  · dsimp only
    split
    · rename_i found
      obtain ⟨hi, -⟩ := findWindow_some found
      exact ((counted.then_attachFree _).then_makeStale fun _ => by simpa [attach, modSegment] using hi).then_finishRead
    · exact counted.then_finishRead
  · exact h

theorem Keeps.then_imageTaken : Keeps calm s₀ (imageTaken s).state := by
  have taken := h.then_lif { s.lif with readIndex := s.lif.readIndex + 1 }
  unfold imageTaken
  dsimp only
  split
  · exact taken.then_endOwned _
  · exact taken

theorem Keeps.then_handshakeAct (accept : Bool) : Keeps calm s₀ (handshakeAct accept s).state := by
  have ended : Keeps calm s₀ ((linkRelease s).modLif fun l => { l with exchange := .noFrame }) := h.then_linkRelease.then_lif _
  unfold handshakeAct
  dsimp only
  split
  · split
    case h_4 =>
      rw [done_state]
      refine ended.then_lif _ ?_
      rintro ⟨queue, held⟩
      refine ⟨queue, Nat.le_trans ?_ held⟩
      have tail : s.lif.reports.tail.length ≤ s.lif.reports.length := by simp
      exact Nat.add_le_add_right (Nat.add_le_add_left tail _) _
    case h_5 => exact ended.then_deliver _
    case h_6 => exact ended.then_imageTaken
    case h_7 => exact ended.then_applyClear _
    all_goals exact ended
  · exact ended

/-! ### Parity on the link side -/

theorem Keeps.then_turnToAgain : Keeps calm s₀ (turnToAgain s).state := by
  unfold turnToAgain
  split
  · exact h.then_setAside.then_boundary h.then_setAside.then_nextSector
  · exact h

theorem Keeps.then_linkParityAct (at_ : Nat) : Keeps calm s₀ (linkParityAct at_ s).state := by
  unfold linkParityAct
  split
  · split
    · exact h
    · dsimp only
      split
      · exact ((h.then_linkRelease.then_sendFrame _ _).then_loseBlock _ _).then_failRead _
      · exact (((h.then_linkRelease.then_sendFrame _ _).then_dropBlock _ _).then_modJob _).then_turnToAgain
  · exact h

theorem Keeps.then_parityAct (side : PortSide) (at_ : Nat) : Keeps calm s₀ (parityAct side at_ s).state := by
  unfold parityAct
  split
  · exact h.then_linkParityAct _
  · exact h.then_mediaParityAct

/-! ### Immediate orders and the link reset -/

theorem Keeps.then_immediate (tag : Nat) {f : State → Act} (acts : ∀ {s}, Keeps calm s₀ s → Keeps calm s₀ (f s).state) : Keeps calm s₀ (immediate tag f s).state := by
  unfold immediate
  split
  · exact h.then_answer _
  · exact acts (h.then_answer _)

theorem Keeps.then_abortExecuting (e : Executing) : Keeps calm s₀ (abortExecuting e s).1.state := by
  unfold abortExecuting
  split
  · exact h
  · exact h
  · split
    · exact h.then_stopRetryRound
    · exact h
  · split
    · unfold abortInSlot
      split
      · exact h
      · exact (h.then_txe _).then_boundary (h.then_txe _)
    · exact h
    · exact h
    · exact h.then_endPlain _
    · exact h.then_endPlain _
    · exact h.then_endPlain _
    · exact h.then_endPlain _
    · exact (h.then_txe { s.txe with orderWaits := false }).then_endPlain _

theorem Keeps.then_abortTag (tag victim : Nat) : Keeps calm s₀ (abortTag tag victim s).state := by
  unfold abortTag
  split
  · rename_i o found
    rw [send_state]
    refine Keeps.then_startFlushTimer (h.then_lif _ ?_)
    rintro ⟨queue, held⟩
    have mem := List.mem_of_find?_eq_some found
    have erased := List.length_erase_of_mem mem
    have pos := List.length_pos_of_mem mem
    unfold placesHeld at held
    refine ⟨?_, ?_⟩
    · change (s.lif.orderQueue.erase o).length ≤ 4
      omega
    · change (s.lif.orderQueue.erase o).length + (s.lif.reports ++ [removedReport s o]).length + (if s.lif.executing.isSome then 1 else 0) ≤ 8
      rw [List.length_append, List.length_singleton]
      omega
  · exact (h.then_abortExecuting _).andThen fun _ k => k
  · exact h

theorem Keeps.then_abortEvery (tag : Nat) : Keeps calm s₀ (abortEvery tag s).state := by
  unfold abortEvery
  dsimp only
  split
  · exact (h.then_abortExecuting _).andThen fun _ k => k.then_removeQueued
  · exact h.then_removeQueued

theorem Keeps.then_resetExecuting : Keeps calm s₀ (resetExecuting s).state := by
  unfold resetExecuting
  split
  · exact h
  · split
    · split
      · exact h.then_makeRemnant
      · have ending : Keeps calm s₀ ((makeRemnant s).modTxe fun t => { t with endPending := .linkReset }) := h.then_makeRemnant.then_txe _
        exact ending.then_boundary ending
    · exact h.then_makeRemnant
    · exact (h.then_carry _).then_dropExecuting
    all_goals exact h.then_dropExecuting

theorem Keeps.then_linkResetAct (cut : PartialFrame) : Keeps calm s₀ (linkResetAct cut s).state := by
  refine ((h.then_partialAct cut).andThen fun s1 k => ?_).andThen fun _ k => k.then_resetExecuting
  refine Keeps.then_csq (k.then_linkRelease.then_lif _ ?_) _
  rintro ⟨-, held⟩
  unfold placesHeld at held
  refine ⟨Nat.zero_le 4, ?_⟩
  change 0 + 0 + (if s1.lif.executing.isSome then 1 else 0) ≤ 8
  split <;> omega

theorem Keeps.then_resetAct (tag : Nat) : Keeps calm s₀ (resetAct tag s).state := (h.then_linkResetAct .other).andThen fun _ k => k

end

end Sys2Proof.Machine

/-! The step lemmas: what every message, every event and every tick keeps, and the seven invariants of the reachable states. -/

namespace Sys2Proof.Machine

set_option Elab.async false

variable {calm : Prop}

/-! ### Messages -/

section

variable {s₀ s : State} (h : Keeps calm s₀ s)
include h

theorem Keeps.then_slotFreeAct : Keeps calm s₀ (slotFreeAct s).state := by
  unfold slotFreeAct
  split
  · split
    · exact h.then_takeWaiting
    · split
      · exact h.then_takeDeparture
      · exact h.then_calibrationCheck
  · exact h

theorem Keeps.then_handle (g : Signal) : Keeps calm s₀ (handle g s).state := by
  unfold handle
  split
  case h_1 => exact h.then_spinUpCompleteAct
  case h_2 => exact h.then_spinUpFailedAct
  case h_3 => exact h.then_lockLostAct
  case h_4 => exact h.then_csq _
  case h_5 => exact h.then_stopConfirmedAct
  case h_6 => exact h.then_rotationPersistsAct
  case h_7 => exact h.then_transferOnTrack
  case h_8 => exact h.then_passOnTrack
  case h_9 | h_10 => exact h
  case h_11 => exact h.then_transferSeekError
  case h_12 => exact h.then_passSeekError
  case h_13 | h_14 => exact h
  case h_15 => exact h.then_followReachedAct
  case h_16 => exact h.then_parkedAct _
  case h_17 => exact h.then_calibrationCheck
  case h_18 => exact h.then_passEndedAct
  case h_19 => exact h.then_labelReadEndedAct
  case h_20 => exact h.then_flushCompleteAct
  case h_21 => exact h.then_flushFailedAct _
  case h_22 => exact h.then_flushHeldAct
  case h_23 => exact h.then_parkAct
  case h_24 => exact h.then_retractAct
  case h_25 => exact h.then_spinGateCheck
  case h_26 => exact h.then_slotFreeAct
  case h_27 => exact h.then_requestBackground
  case h_28 => exact h.then_startReadAhead _ _
  case h_29 => exact h.then_startFlushTimer
  case h_30 => exact h.then_dispatchAct
  case h_31 => exact h.then_readyEnteredAct _
  case h_32 => exact h.then_endOwned _
  case h_33 => exact h.then_flushResumedAct
  case h_34 => exact h.then_sendFrame _ _

/-- The end of an event closes the gate at most and derives the attention line (R131, R183). -/
theorem Keeps.then_finish : Keeps calm s₀ (finish s) := by
  refine Keeps.then_lif (Keeps.then_txe h _ ?_) _
  exact fun rests none => ⟨(rests none).1, by simp [(rests none).2.1], (rests none).2.2⟩

end

theorem Keeps.of_run {s₀ t : State} {a : Act} (acted : Keeps calm s₀ a.state) (next : run a = .next t) : Keeps calm s₀ t := by
  obtain rfl := Host.Outcome.next.inj next
  exact settle_keeps (Keeps calm s₀) (fun g _ k => k.then_handle g) (fun _ k => k.then_finish) a acted

/-! ### Events -/

/-- The state that power-on reset leaves has every invariant, whatever came before it. -/
theorem Keeps.powerOn (s : State) (present tab : Bool) (straps : Nat) :
    Keeps False s (if present then spindleBrake (lockAtReset tab (powerOnState present tab straps s)) else done (powerOnState present tab straps s)).state := by
  have on : Keeps False s (powerOnState present tab straps s) := by
    refine ⟨nofun, fun _ => ⟨fun _ => .inl rfl, fun pulse => nomatch pulse⟩, fun _ => ?_, fun _ => ?_, fun _ _ => ⟨rfl, rfl, rfl⟩, fun _ => ?_, fun _ => ?_, fun _ => ?_⟩
    · exact (by decide : SpindleOutputsFollow State.reset)
    · exact (by decide : ServoInRange State.reset)
    · exact (by decide : LabelSound State.reset)
    · exact (by decide : CacheSound State.reset)
    · exact (by decide : PlacesReserved State.reset)
  split
  · exact Keeps.then_spindleBrake (on.then_csq _ fun _ => ⟨fun free => (nomatch free), fun pulse => nomatch pulse⟩)
  · exact on

theorem Keeps.of_exec {c : Instr} {s t : State} (next : exec c s = .next t) : Keeps False s t := by
  have h : Keeps False s s := .refl s
  cases c
  case powerOnReset present tab straps => exact .of_run (.powerOn s present tab straps) next
  case linkResetLine cut => exact .of_run (h.then_linkResetAct cut) next
  case presenceChange present => exact .of_run (h.then_presenceAct present) next
  case seatingDebounceExpiry tab => exact .of_run (h.then_debounceAct tab) next
  case ejectButtonPress => exact .of_run h.then_buttonAct next
  case ejectButtonRelease => exact .of_run (a := done (s.modCsq fun c => { c with buttonReady := true })) (h.then_csq _) next
  case ejectPulseEnd => exact .of_run (a := done (pulseEndAct s)) h.then_pulseEndAct next
  case ejectCheckExpiry => exact .of_run h.then_ejectCheckAct next
  case standbyTimerExpiry => exact .of_run h.then_standbyAct next
  case graceTimerExpiry => exact .of_run h.then_graceAct next
  case spinUpTimerExpiry => exact .of_run h.then_spinUpTimerAct next
  case indexPulse => exact .of_run h.then_indexPulseAct next
  case commutationPulse => exact .of_run h.then_commutationAct next
  case timeBaseOverflow => exact .of_run h.then_overflowAct next
  case brakeStepExpiry => exact .of_run h.then_brakeStepAct next
  case checkWaitExpiry => exact .of_run h.then_checkWaitAct next
  case servoSample r => exact .of_run ((h.then_servoSampleAct r).andThen fun _ k => k.then_mediaWatch) next
  case loadLimitReached =>
    refine .of_run ?_ next
    rw [done_state]
    split
    · exact h.then_loadLimitAct
    · exact h
  case seekTimeout =>
    refine .of_run ?_ next
    split
    · exact h.then_timeoutAct
    · exact h
  case lostCondition =>
    refine .of_run ?_ next
    split
    · exact (Keeps.then_servoLost (s := eighthMissed s) (h.then_svc _)).andThen fun _ k => k.then_mediaWatch
    · exact h
  case retractTimerExpiry => exact .of_run h.then_retractTimerAct next
  case sectorMark m => exact .of_run (h.then_sectorMarkAct m) next
  case readFieldEnd data good => exact .of_run (h.then_readFieldAct data good) next
  case writeFieldEnd => exact .of_run h.then_writeFieldAct next
  case parityError side at_ => exact .of_run (h.then_parityAct side at_) next
  case holdWaitExpiry => exact .of_run h.then_holdWaitAct next
  case flushDelayExpiry =>
    refine .of_run ?_ next
    unfold flushDelayAct
    split
    · exact Keeps.then_requestBackground (h.then_sgc _)
    · exact h
  case monitorReading reading => exact .of_run (h.then_monitorReadingAct reading) next
  case pollFrame => exact .of_run (a := done (pollAct s)) h.then_pollAct next
  case hostHandshake accept => exact .of_run (h.then_handshakeAct accept) next
  case dataOutFrame tag index payload => exact .of_run (h.then_dataOutAct tag index payload) next
  case unknownOrderKind => exact .of_run (a := done (refusedFrame s)) (h.then_answer _) next
  case status tag clear => exact .of_run (h.then_immediate tag fun k => k) next
  case abort tag victim => exact .of_run (h.then_immediate tag fun k => k.then_abortTag tag victim) next
  case abortAll tag => exact .of_run (h.then_immediate tag fun k => k.then_abortEvery tag) next
  case reset tag => exact .of_run (h.then_immediate tag fun k => k.then_resetAct tag) next
  case frameDiscardedBadCrc frame => exact .of_run (h.then_badFrameAct frame) next
  all_goals exact .of_run (h.then_acceptOrder _ _) next

/-- Every command and every tick keeps each of the seven invariants. -/
theorem Keeps.of_step {s t : State} (next : step s = .next t) : Keeps False s t := by
  unfold step at next
  split at next
  · unfold idle at next
    split at next
    · exact .of_exec next
    · exact .of_run (Keeps.then_countTick (Keeps.then_elapse (.refl s))) next
  · rename_i c rest _
    have front : Keeps False s { s with pending := rest } := ⟨nofun, id, id, id, id, id, id, id⟩
    exact front.trans (.of_exec next)

/-! ### The statements -/

/-- Settles O27. -/
theorem everyStepKeepsTheLabelSound : Obligations.EveryStepKeepsTheLabelSound := fun _ _ sound next => (Keeps.of_step next).label sound

/-- Settles O54. -/
theorem everyStepKeepsTheSlotAtRest : Obligations.EveryStepKeepsTheSlotAtRest := fun _ _ rests next => (Keeps.of_step next).slot rests

/-- Settles O55. -/
theorem everyStepKeepsTheInterlock : Obligations.EveryStepKeepsTheInterlock := fun _ _ interlock next => (Keeps.of_step next).interlock interlock

/-- Settles O56. -/
theorem everyStepKeepsTheSpindleOutputs : Obligations.EveryStepKeepsTheSpindleOutputs :=
  fun _ _ outputs next => (Keeps.of_step next).spindle outputs

/-- Settles O57. -/
theorem everyStepKeepsTheServoInRange : Obligations.EveryStepKeepsTheServoInRange := fun _ _ range next => (Keeps.of_step next).servo range

/-- Settles O58. -/
theorem everyStepKeepsTheCacheSound : Obligations.EveryStepKeepsTheCacheSound := fun _ _ sound next => (Keeps.of_step next).cache sound

/-- Settles O59. -/
theorem everyStepKeepsPlacesReserved : Obligations.EveryStepKeepsPlacesReserved := fun _ _ reserved next => (Keeps.of_step next).places reserved

/-- Settles O60. -/
theorem resetMeetsTheInvariants : Obligations.ResetMeetsTheInvariants := by
  refine ⟨?gate, ?attention, ?slot, ?interlock, ?spindle, ?servo, ?cache, ?label, ?places⟩
  all_goals decide

/-! ### The outputs at the end of an event -/

/-- Every next state is the end of an event. -/
theorem step_eq_finish {s t : State} (next : step s = .next t) : ∃ u, t = finish u := by
  have ofExec : ∀ {c : Instr} {s : State}, exec c s = .next t → ∃ u, t = finish u := by
    intro c s next
    have ended : ∃ a, exec c s = run a := by cases c <;> exact ⟨_, rfl⟩
    obtain ⟨a, acted⟩ := ended
    rw [acted] at next
    exact ⟨_, (Host.Outcome.next.inj next).symm⟩
  unfold step at next
  split at next
  · unfold idle at next
    split at next
    · exact ofExec next
    · exact ⟨_, (Host.Outcome.next.inj next).symm⟩
  · exact ofExec next

/-- Settles O53: the end of every event leaves the gate open only where it is allowed, and derives the attention line. -/
theorem gateAndAttentionFollow : Obligations.GateAndAttentionFollow := by
  intro s t next
  obtain ⟨u, rfl⟩ := step_eq_finish next
  refine ⟨fun gate => ?_, ?_⟩
  · have allowed : gateAllowed u = true := (Bool.and_eq_true _ _ ▸ gate).2
    have hold : writeHold (finish u) = writeHold u := rfl
    simpa [gateAllowed, and_assoc, hold] using allowed
  · simp [AttentionFollows, attentionOf, finish]

/-- Settles O1. -/
theorem stepRunsFrontCommand : Obligations.StepRunsFrontCommand := by
  intro c rest s queue
  simp [step, queue]

/-- Settles O2: with no command waiting, `idle` takes the due timer or lets one tick pass. -/
theorem emptyQueueTicks : Obligations.EmptyQueueTicks := by
  intro s empty
  have idles : step s = idle s := by simp [step, empty]
  refine ⟨fun c due => ?_, fun quiet still => ?_, fun quiet runs room => ?_⟩
  · simp [idles, idle, due]
  · have same : (elapse s).spc.phase = .idle := still
    simp [idles, idle, quiet, tickAct, countTick, same, run_done]
  · have same : (elapse s).spc.phase = s.spc.phase := rfl
    have base : (elapse s).spc.timeBase = s.spc.timeBase := rfl
    simp [idles, idle, quiet, tickAct, countTick, same, base, runs, room, run_done]

/-- Settles O3: the state after reset is one of constants. -/
theorem resetLeavesTheTables : Obligations.ResetLeavesTheTables := by
  unfold Obligations.ResetLeavesTheTables
  decide

end Sys2Proof.Machine

/-! How a course of messages ends: the rules by which the statements about single commands are settled. A command's own operation is written
as a state with its messages; `settle_of` and `drain_of` take one message after the other, and `next_of_done` and `leads_of` close the step. -/

namespace Sys2Proof.Machine

set_option Elab.async false

/-! ### A step and its messages -/

/-- A command without messages answers the state that it leaves. -/
theorem next_of_done {a : Act} {t : State} (act : a = done t) : run a = .next (finish t) := by rw [act]; rfl

theorem settle_of {a : Act} {l : List Signal} {t u : State} (act : a = ⟨t, l⟩) (rest : drain 200 l t = u) : settle a = finish u := by
  subst act rest; rfl

theorem drain_of {n : Nat} {g : Signal} {l m : List Signal} {s t u : State} (first : handle g s = ⟨t, m⟩) (rest : drain n (m ++ l) t = u) :
    drain (n + 1) (g :: l) s = u := by
  rw [drain_cons, first]; exact rest

/-- Messages that the state takes no notice of. -/
theorem drain_ignored {n : Nat} {l : List Signal} {s : State} (ignored : ∀ g ∈ l, handle g s = done s) : drain n l s = s := by
  induction l generalizing n with
  | nil => exact drain_nil n s
  | cons g t ih =>
    cases n with
    | zero => rfl
    | succ n =>
      rw [drain_cons, ignored g (List.mem_cons_self ..)]
      exact ih fun x mem => ignored x (List.mem_cons_of_mem g mem)

theorem andThen_of {a : Act} {f : State → Act} {s t : State} {l m : List Signal} (first : a = ⟨s, l⟩) (second : f s = ⟨t, m⟩) :
    a.andThen f = ⟨t, l ++ m⟩ := by
  rw [first, Act.andThen, second]

theorem next_of_settle {a : Act} {t : State} (settled : settle a = t) : run a = .next t := by rw [run_eq, settled]

theorem leads_of {c : Instr} {s t : State} {p : State → Prop} (next : exec c s = .next t) (holds : p t) : Leads c s p := ⟨t, next, holds⟩

/-! ### Operations with a branch, as updates -/

theorem dropWantedIfClean_eq (s : State) :
    dropWantedIfClean s = { s with sgc := { s.sgc with flushWanted := s.sgc.flushWanted && decide (dirtyCount s ≠ 0) } } := by
  unfold dropWantedIfClean
  split <;> simp [State.modSgc, *]

theorem restartStandby_eq (s : State) : restartStandby s = { s with csq := dispatchedCsq s.lif.settings s.csq } := by
  unfold restartStandby
  split <;> simp [State.modCsq, dispatchedCsq, standbyFrom, *]

/-- The flush delay after an event that starts it (R140). -/
def flushTimerFrom (l : Lifecycle) (x : Settings) (t : Option Nat) : Option Nat :=
  if l = .ready ∧ x.flushDelay ≠ 0 then some (x.flushDelay * 100000) else t

theorem startFlushTimer_eq (s : State) :
    startFlushTimer s = { s with sgc := { s.sgc with flushTimer := flushTimerFrom s.csq.lifecycle s.lif.settings s.sgc.flushTimer } } := by
  unfold startFlushTimer flushTimerFrom
  split <;> rfl

/-- Every segment given up, with no block left. -/
def emptied (g : Segment) : Segment := { g with valid := [], dirty := [], attachment := .free }

theorem freeAll_eq (s : State) :
    freeAll s = { s with sgc := { s.sgc with
      segments := s.sgc.segments.map emptied, flushWanted := false,
      recency := (List.range s.sgc.segments.length).foldl (fun r i => toBack i r) s.sgc.recency } } := by
  have clean : (s.sgc.segments.map (fun g => (emptied g).dirty.length)).sum = 0 := by simp [emptied]
  simp [freeAll, dropWantedIfClean, dirtyCount, State.modSgc, List.map_map, Function.comp_def, emptied]

theorem emptied_of_mem {g : Segment} {l : List Segment} (mem : g ∈ l.map emptied) : g.valid = [] ∧ g.dirty = [] ∧ g.attachment = .free := by
  obtain ⟨x, -, rfl⟩ := List.mem_map.mp mem
  exact ⟨rfl, rfl, rfl⟩

/-! ### Ends of orders and jobs -/

section Ends

variable {n : Nat} {l : List Signal} {s u : State}

theorem dispatchAct_of_empty (queue : s.lif.orderQueue = []) : dispatchAct s = done s := by
  have none : dispatchable s = none := by
    unfold dispatchable
    split <;> simp [queue]
  rcases dispatchAct_cases s with same | ⟨o, -, found, -⟩
  · exact same
  · exact nomatch none ▸ found

theorem drain_dispatch (queue : s.lif.orderQueue = []) (rest : drain n l s = u) : drain (n + 1) (.dispatch :: l) s = u :=
  drain_of (dispatchAct_of_empty queue) rest

/-- With no order queued the end of an order starts the flush delay and nothing else (R142). -/
theorem drain_orderEnded (queue : s.lif.orderQueue = []) (rest : drain n l (startFlushTimer s) = u) : drain (n + 2) (.orderEnded :: l) s = u :=
  drain_of (m := [.dispatch]) rfl (drain_dispatch (by rw [startFlushTimer_eq]; exact queue) rest)

theorem calibrationCheck_of_not_due (due : s.svc.cal.due = false) : calibrationCheck s = done s := by simp [calibrationCheck, due]

theorem drain_slotFree (due : s.svc.cal.due = false) (order : s.txe.orderWaits = false) (departure : s.txe.departureWaits = false)
    (rest : drain n l s = u) : drain (n + 1) (.slotFree :: l) s = u :=
  drain_of (m := []) (by
    show slotFreeAct s = done s
    unfold slotFreeAct
    split <;> simp [order, departure, calibrationCheck_of_not_due due]) rest

theorem drain_slotIdle (wanted : s.sgc.flushWanted = false) (rest : drain n l s = u) : drain (n + 1) (.slotIdle :: l) s = u :=
  drain_of (m := []) (by
    show requestBackground s = done s
    simp [requestBackground, wanted]) rest

end Ends

theorem endAwaited_of_none {o : Outcome} {s : State} (noOrder : s.lif.executing = none) : endAwaited o s = done s := by
  simp [endAwaited, startAwaited, noOrder]

/-- The link's registers after the end of the executing order with a report (R171). -/
abbrev endedLif (r : Report) (l : Lif) : Lif :=
  { l with executing := none, loadImage := [], readImage := [], readIndex := 0, exchange := dropDataFrame l.exchange, reports := l.reports ++ [r] }

/-- The state after the end of the executing order with a report. -/
abbrev ended (r : Report) (s : State) : State := { s with sgc := { s.sgc with linkPort := .idle }, lif := endedLif r s.lif }

theorem endOrder_live {o : Outcome} {d : Detail} {n : Nat} {e : Executing} {s : State} (executing : s.lif.executing = some e)
    (live : e.remnant = false) :
    endOrder o d n s = send .orderEnded (ended
      { tag := e.order.tag, kind := e.order.kind, outcome := o, blocks := n, detail := d, lifecycle := s.csq.lifecycle } s) := by
  simp [endOrder, executing, live, ended, endedLif, linkRelease, State.modLif, State.modSgc]

theorem endPlain_live {o : Outcome} {e : Executing} {s : State} (executing : s.lif.executing = some e) (live : e.remnant = false) :
    endPlain o s = send .orderEnded (ended
      { tag := e.order.tag, kind := e.order.kind, outcome := o, blocks := e.blocks, detail := e.order.kind.detail, lifecycle := s.csq.lifecycle }
      s) := by
  rw [endPlain_of_executing o e s executing, endOrder_live executing live]

theorem endOwned_live {o : Outcome} {e : Executing} {s : State} (executing : s.lif.executing = some e) (live : e.remnant = false) :
    endOwned o s = send .orderEnded (ended
      { tag := e.order.tag, kind := e.order.kind, outcome := o, blocks := e.blocks, detail := e.order.kind.ownDetail,
        lifecycle := s.csq.lifecycle } s) := by
  rw [endOwned_of_executing o e s executing, endOrder_live executing live]

/-- The transfer engine with its slot given up. -/
abbrev closedTxe (t : Txe) : Txe :=
  { t with op := none, gate := false, holdTimer := none, job := none, yieldPending := false, endPending := .no, jobRecovered := false }

/-- The segments given up by a job. -/
abbrev closedSgc (g : Sgc) : Sgc := { portReleased g with segments := g.segments.map freed }

theorem closeJob_eq (s : State) : closeJob s = { s with txe := closedTxe s.txe, sgc := closedSgc s.sgc } := rfl

/-- The state after the end of the executing order's job with a report. -/
abbrev jobEnded (r : Report) (s : State) : State :=
  { s with txe := closedTxe s.txe, sgc := { closedSgc s.sgc with linkPort := .idle }, lif := endedLif r s.lif }

theorem endOrderJob_live {o : Outcome} {d : Detail} {extra : List Signal} {e : Executing} {s : State} (executing : s.lif.executing = some e)
    (live : e.remnant = false) :
    endOrderJob o d extra s = ⟨jobEnded
      { tag := e.order.tag, kind := e.order.kind, outcome := o, blocks := e.blocks, detail := d, lifecycle := s.csq.lifecycle } s,
      .slotFree :: .orderEnded :: (extra ++ [.slotIdle])⟩ := by
  have count : blocksDone s = e.blocks := by simp [blocksDone, executing]
  rw [endOrderJob, count, endOrder_live (s := closeJob s) executing live]
  rfl

/-- An order's job that ends with nothing waiting leaves the slot empty and its report in the queue. -/
theorem settle_endOrderJob {a : Act} {o : Outcome} {d : Detail} {e : Executing} {s : State} (act : a = endOrderJob o d [] s)
    (executing : s.lif.executing = some e) (live : e.remnant = false) (waits : NothingWaits s) (wanted : s.sgc.flushWanted = false) :
    settle a = finish (startFlushTimer (jobEnded
      { tag := e.order.tag, kind := e.order.kind, outcome := o, blocks := e.blocks, detail := d, lifecycle := .ready } s)) := by
  obtain ⟨queue, ready, due, order, departure⟩ := waits
  rw [← ready]
  refine settle_of (act.trans (endOrderJob_live executing live)) (drain_slotFree due order departure (drain_orderEnded queue ?_))
  rw [startFlushTimer_eq]
  exact drain_slotIdle wanted (drain_nil _ _)

end Sys2Proof.Machine

/-! The spindle's own commands and the cartridge's coming and going (R2 to R9, R18, R34 to R49). -/

namespace Sys2Proof.Machine

set_option Elab.async false

/-- Settles O4: without a cartridge nothing follows the reset; with one the brake is taken from STILL. -/
theorem powerOnTakesPresence : Obligations.PowerOnTakesPresence := by
  intro tab straps s
  have quiet : { resetLif straps with attention := attentionOf (resetLif straps) } = resetLif straps := by
    simp [attentionOf, resetLif, Config.romSettings]
  refine ⟨?_, leads_of rfl ⟨rfl, rfl, rfl, rfl, rfl, rfl, rfl, rfl, rfl, rfl, rfl, quiet, rfl⟩⟩
  rw [← quiet]
  rfl

/-- Settles O5, by the lifecycle state in which the sensor changes. -/
theorem presenceSeatsAndUnseats : Obligations.PresenceSeatsAndUnseats := by
  intro s
  refine ⟨fun empty => next_of_done ?seats, fun seating => next_of_done ?unseats, fun p notEmpty notSeating notEject notJammed => next_of_done ?stays⟩
  case seats => unfold presenceAct; rw [empty]; rfl
  case unseats => unfold presenceAct; rw [seating]; rfl
  case stays =>
    unfold presenceAct
    split <;> first | contradiction | rfl

/-- Settles O16. -/
theorem brakeStepsDown : Obligations.BrakeStepsDown := by
  intro s braking running
  refine ⟨fun above => next_of_done ?steps, fun last => next_of_done ?ends⟩
  case steps => unfold brakeStepAct; rw [if_pos ⟨running, braking⟩, if_pos above]; rfl
  case ends => unfold brakeStepAct; rw [if_pos ⟨running, braking⟩, if_neg (by omega)]; rfl

/-! ### The cartridge leaves -/

/-- The state without a cartridge that an ejection leaves (R20). -/
abbrev gone (s : State) : State :=
  { s with
    csq := { stillCsq .empty s.csq with ejectPending := false, ejectByButton := false, writeProtected := false }
    txe := { s.txe with labelStatus := .unread, record := none, defects := [], labelModified := false }
    sgc := { stillSgc s.sgc with
      segments := s.sgc.segments.map emptied, flushWanted := false,
      recency := (List.range s.sgc.segments.length).foldl (fun r i => toBack i r) s.sgc.recency }
    lif := { s.lif with notices := s.lif.notices ||| 2#16 } }

theorem cartridgeGone_eq (s : State) : cartridgeGone s = if ejectExecuting s then endOrder .done .noDetail 0 (gone s) else done (gone s) := by
  unfold cartridgeGone
  simp only [freeAll_eq]
  rfl

/-- Settles O6. -/
theorem cartridgeLeaves : Obligations.CartridgeLeaves := by
  intro s leaves noEject
  have act : presenceAct false s = done (gone { s with pins := { s.pins with present := false } }) := by
    have leaving : presenceAct false s = cartridgeGone { s with pins := { s.pins with present := false } } := by
      unfold presenceAct
      rcases leaves with eject | jammed
      · rw [eject]; rfl
      · rw [jammed]; rfl
    rw [leaving, cartridgeGone_eq, if_neg (by exact Bool.eq_false_iff.mp noEject)]
  exact leads_of (next_of_done act)
    ⟨rfl, rfl, rfl, rfl, rfl, rfl, fun g mem => emptied_of_mem mem, rfl, rfl, rfl, rfl, rfl, rfl⟩

/-- Settles O9: the pulse's end, and the check by what the sensor reads and by the number of pulses. -/
theorem ejectCourseRuns : Obligations.EjectCourseRuns := by
  intro s eject
  refine ⟨fun running => next_of_done ?pulseEnd, fun running present few unlocked => next_of_done ?nextPulse,
    fun running present last noEject => next_of_done ?jams, fun running absent noEject => ?leaves⟩
  case pulseEnd => simp [pulseEndAct, running, pulseStop, State.modCsq, eject, Config.ejectCheckTime]
  case nextPulse => simp [ejectCheckAct, running, eject, State.modCsq, present, few, firePulse, pulseRequest, unlocked, pulseWidth]
  case jams =>
    unfold ejectCheckAct
    rw [if_pos ⟨running, eject⟩]
    exact (if_neg (by simp [present])).trans ((if_neg (Nat.not_lt.mpr last)).trans (if_neg (Bool.eq_false_iff.mp noEject)))
  case leaves =>
    have act : ejectCheckAct s = done (gone { s with csq := { s.csq with ejectCheck := none } }) := by
      unfold ejectCheckAct
      rw [if_pos ⟨running, eject⟩]
      exact (if_pos absent).trans ((cartridgeGone_eq _).trans (if_neg (by exact Bool.eq_false_iff.mp noEject)))
    exact leads_of (next_of_done act)
      ⟨rfl, rfl, rfl, rfl, rfl, rfl, fun g mem => emptied_of_mem mem, rfl, rfl, rfl, rfl, rfl, rfl, rfl⟩

end Sys2Proof.Machine

/-! The start of the spindle, its speed lock and its stop (R5, R22, R34 to R49). -/

namespace Sys2Proof.Machine

set_option Elab.async false

/-! ### Rules of the spindle and of a sector cut off -/

/-- The spindle driven from STILL (R34). -/
abbrev drivenSpc (p : Spc) : Spc :=
  { p with
    state := .driving, driveEnable := true, brakeLevel := 0, phase := .acquire, speedLock := false, windowOpened := false, timeBase := 0,
    pulseCounter := 0, inBandRun := 0, spinUpPending := true, spinUpTimer := some 10000000, lastCheckConfirmed := false,
    rotationReported := false, brakingRound := 0 }

/-- The state in which a spin-up has begun (R9). -/
abbrev spunUp (s : State) : State :=
  { s with csq := { stillCsq .spinUp s.csq with spinUpRequest := false }, sgc := stillSgc s.sgc, spc := drivenSpc s.spc }

theorem spinGateCheck_open {s : State} (stopped : s.csq.lifecycle = .stopped) (request : s.csq.spinUpRequest = true)
    (round : s.smn.roundComplete = true) (shut : gateShut s = false) (still : s.spc.state = .still) : spinGateCheck s = spunUp s := by
  unfold spinGateCheck
  rw [if_pos ⟨stopped, request, round, shut⟩]
  exact if_pos still

/-- An ACQUIRE phase begun by a loss of the lock (R41). -/
abbrev lostSpc (p : Spc) : Spc :=
  { p with phase := .acquire, speedLock := false, windowOpened := false, timeBase := 0, pulseCounter := 0, inBandRun := 0 }

theorem spindleBrake_free {s : State} (free : s.spc.state = .still ∨ s.spc.state = .driving ∨ s.spc.state = .coasting) :
    spindleBrake s = { state := s.modSpc (Spc.brake (brakeInterval s)), signals := if s.spc.phase = .track then [.lockLost] else [] } := by
  unfold spindleBrake
  rcases free with still | driving | coasting
  · rw [still]
  · rw [driving]
  · rw [coasting]

theorem satAdd_eq (top n k : Nat) : satAdd top n k = min top (n + k) := by
  unfold satAdd
  split <;> omega

theorem boundary_free {f : State → Act} {s : State} (noEnd : s.txe.endPending = .no) (noYield : s.txe.yieldPending = false) :
    boundary f s = f s := by
  simp [boundary, noEnd, noYield]

theorem mediaWatch_idle {s : State} (idle : ∀ u, s.txe.op = some u → u.phase ≠ .transferring) : mediaWatch s = done s := by
  unfold mediaWatch
  cases op : s.txe.op with
  | none => rfl
  | some u => exact if_pos (idle u op)

/-- A field in flight is cut with one retry when a condition of its direction has gone (R132, R136). -/
theorem mediaWatch_cut {o : SectorOp} {s : State} (op : s.txe.op = some o) (retry : CanRetry o s) (follow : s.svc.mode = .follow)
    (cut : (o.dir = .write ∧ gateAllowed s = false) ∨ (o.dir = .read ∧ s.spc.speedLock = false)) :
    mediaWatch s = done { s with txe := cutTxe o s.txe, sgc := portReleased s.sgc } := by
  obtain ⟨transferring, below, same, noEnd, noYield⟩ := retry
  have cut' : (o.dir = .write ∧ gateAllowed s = false) ∨ (o.dir = .read ∧ (s.spc.speedLock = false ∨ s.svc.mode ≠ .follow)) :=
    cut.imp_right fun ⟨read, lost⟩ => ⟨read, .inl lost⟩
  unfold mediaWatch
  rw [op]
  refine (if_neg (by simp [transferring])).trans ((if_pos cut').trans ?_)
  simp [countRetry, mediaRelease, State.modSgc, State.modTxe, op, below, same, setOp, boundary_free, noEnd, noYield, phaseAfterCut, follow,
    satAdd_eq, cutTxe]

theorem finish_finish (s : State) : finish (finish s) = finish s := by
  have gate : (s.txe.gate && gateAllowed s && gateAllowed s) = (s.txe.gate && gateAllowed s) := by
    cases s.txe.gate <;> cases gateAllowed s <;> rfl
  show { finish s with txe := { s.txe with gate := s.txe.gate && gateAllowed s && gateAllowed s } } = _
  rw [gate]
  rfl

/-! ### The start -/

/-- Settles O7: the lock engages at the debounce's end; the spin-up follows when the settings and the gates allow it. -/
theorem debounceLocksTheCartridge : Obligations.DebounceLocksTheCartridge := by
  intro tab s debouncing seating
  refine ⟨fun manual => next_of_done ?stops, fun auto noHold round shut still => ?starts⟩
  case stops =>
    unfold debounceAct
    rw [if_pos ⟨debouncing, seating⟩]
    have noStart : autoSpin s = false := by
      rcases manual with off | hold
      · simp [autoSpin, off]
      · simp [autoSpin, hold]
    exact congrArg done (if_neg (Bool.eq_false_iff.mp noStart))
  case starts =>
    have locked : debounceAct tab s = done (spunUp { s with
        csq := { stillCsq .stopped s.csq with lockEngaged := true, writeProtected := tab, stopReason := .insert, spinUpRequest := true }
        sgc := stillSgc s.sgc, lif := { s.lif with notices := s.lif.notices ||| 1#16 }, pins := { s.pins with tab := tab } }) := by
      have auto' : autoSpin s = true := by simp [autoSpin, auto, noHold]
      unfold debounceAct
      rw [if_pos ⟨debouncing, seating⟩]
      exact congrArg done ((if_pos auto').trans (spinGateCheck_open rfl rfl round shut still))
    exact leads_of (next_of_done locked) ⟨rfl, rfl, rfl, rfl, rfl, rfl, rfl, rfl, rfl⟩

/-- Settles O12: the failed start is a stop from COASTING. -/
theorem spinUpTimerFailsTheStart : Obligations.SpinUpTimerFailsTheStart := by
  intro s running spinUp noOrder
  let coasting : State := s.modSpc fun p =>
    { (p.enter .coasting 0).setPhase .idle with pulseCounter := 0, inBandRun := 0, spinUpPending := false, spinUpTimer := none }
  have act : spinUpTimerAct s = ⟨coasting, [.spinUpFailed]⟩ := if_pos running
  have fails : spinUpFailedAct coasting = done ((enter .spinDown (faultStop (latch .spinFault coasting))).modSpc (Spc.brake (brakeInterval s))) :=
     (if_pos spinUp).trans (andThen_of (spindleBrake_free (.inr (.inr rfl))) (endAwaited_of_none noOrder))
  exact leads_of (next_of_settle (settle_of act (drain_of fails (drain_nil _ _))))
    ⟨rfl, rfl, rfl, rfl, rfl, rfl, rfl, rfl, rfl, rfl, rfl, rfl, ⟨rfl, rfl, rfl, rfl, rfl⟩, ⟨rfl, rfl, rfl, rfl, rfl, rfl, rfl⟩, rfl⟩

/-! ### Index pulses -/

section Window

variable {s : State} (acquire : s.spc.phase = .acquire) (opened : s.spc.windowOpened = true) (last : s.spc.pulseCounter = 1)
include acquire opened last

/-- The first window in band leaves ACQUIRE as it is but for the run (R37). -/
theorem indexPulseAct_firstInBand (inBand : acquireInBand s.spc.timeBase.toNat = true) (first : s.spc.inBandRun = 0) :
    indexPulseAct s = done { s with spc := { s.spc with timeBase := 0, pulseCounter := 4, inBandRun := 1 } } := by
  simp [indexPulseAct, acquire, opened, last, acquireWindowEnd, inBand, first, State.modSpc]

/-- The second window in band in succession gains the lock (R37, R39). -/
theorem indexPulseAct_secondInBand (inBand : acquireInBand s.spc.timeBase.toNat = true) (second : s.spc.inBandRun = 1) :
    indexPulseAct s = ⟨{ s with spc := { s.spc with
        phase := .track, speedLock := true, timeBase := 95477#18, pulseCounter := 0, inBandRun := 0, outOfBandRun := 0, spinUpPending := false,
        spinUpTimer := if s.spc.spinUpPending then none else s.spc.spinUpTimer } },
      [if s.spc.spinUpPending then .spinUpComplete else .lockRegained]⟩ := by
  simp [indexPulseAct, acquire, opened, last, acquireWindowEnd, inBand, second, gainLock, State.modSpc, Spc.setPhase, Spc.trackWindow, trackPreset]

end Window

theorem acquireInBand_iff {n : Nat} : acquireInBand n = true ↔ 66001 ≤ n ∧ n ≤ 67333 := by simp [acquireInBand]

/-- Settles O13: a pulse opens a window, counts it down, and closes it by what the time base holds. -/
theorem indexPulsesMeasure : Obligations.IndexPulsesMeasure := by
  intro s
  refine ⟨fun notCounted => next_of_done ?_, fun acquire closed => exec_indexPulse_opens_window acquire closed,
    fun acquire opened many => next_of_done ?_, fun acquire opened last outside => exec_indexPulse_closes_outOfBand acquire opened last ?_,
    fun acquire opened last low high first => next_of_done ?_, fun acquire opened last low high second waiting => ?_,
    fun acquire opened last low high second waiting spinUp parked => ?_⟩
  · unfold indexPulseAct
    rcases notCounted with idle | track
    · rw [idle]
    · rw [track]
  · simp [indexPulseAct, acquire, opened, show ¬ s.spc.pulseCounter ≤ 1 by omega, State.modSpc]
  · rw [Bool.eq_false_iff, Ne, acquireInBand_iff]
    omega
  · exact indexPulseAct_firstInBand acquire opened last (acquireInBand_iff.mpr ⟨low, high⟩) first
  · have gained := indexPulseAct_secondInBand acquire opened last (acquireInBand_iff.mpr ⟨low, high⟩) second
    rw [waiting] at gained
    refine next_of_settle (settle_of gained (drain_of (m := []) rfl ((drain_nil _ _).trans ?_)))
    simp [lockRegainedAct, State.modCsq, waiting]
  · have gained := indexPulseAct_secondInBand acquire opened last (acquireInBand_iff.mpr ⟨low, high⟩) second
    rw [waiting] at gained
    refine next_of_settle (settle_of gained (drain_of (m := []) ((if_pos spinUp).trans ?_) (drain_nil _ _)))
    exact (if_pos parked).trans (if_pos rfl)

/-! ### Commutation pulses and TRACK windows -/

theorem commutationAct_counts {s : State} (track : s.spc.phase = .track) (few : s.spc.pulseCounter < 249) :
    commutationAct s = done { s with spc := { s.spc with pulseCounter := s.spc.pulseCounter + 1 } } := by
  unfold commutationAct
  rw [track]
  exact if_neg (by omega)

theorem commutationAct_loses {s : State} (track : s.spc.phase = .track) (full : 249 ≤ s.spc.pulseCounter) :
    commutationAct s = ⟨{ s with spc := lostSpc s.spc }, [.lockLost]⟩ := by
  unfold commutationAct
  rw [track]
  exact if_pos (by omega)

/-- The second window out of band in succession loses the lock (R40). -/
theorem overflowAct_loses {s : State} (track : s.spc.phase = .track) (bad : trackGood s.spc.pulseCounter = false)
    (again : 1 ≤ s.spc.outOfBandRun) :
    overflowAct s = ⟨{ s with spc := { lostSpc s.spc with outOfBandRun := s.spc.outOfBandRun + 1 } }, [.lockLost]⟩ := by
  unfold overflowAct
  rw [track]
  exact (if_neg (Bool.eq_false_iff.mp bad)).trans (if_pos (by omega))

theorem overflowAct_good {s : State} (track : s.spc.phase = .track) (good : trackGood s.spc.pulseCounter = true) :
    overflowAct s = done { s with spc := { s.spc with timeBase := 95477#18, pulseCounter := 0, outOfBandRun := 0 } } := by
  unfold overflowAct
  rw [track]
  exact if_pos good

theorem overflowAct_firstBad {s : State} (track : s.spc.phase = .track) (bad : trackGood s.spc.pulseCounter = false)
    (first : s.spc.outOfBandRun = 0) :
    overflowAct s = done { s with spc := { s.spc with timeBase := 95477#18, pulseCounter := 0, outOfBandRun := 1 } } := by
  unfold overflowAct
  rw [track]
  exact (if_neg (Bool.eq_false_iff.mp bad)).trans ((if_neg (by omega)).trans (by simp [State.modSpc, Spc.trackWindow, trackPreset, first]))

theorem trackGood_iff {n : Nat} : trackGood n = true ↔ 238 ≤ n ∧ n ≤ 242 := by simp [trackGood]

theorem trackGood_eq_false {n : Nat} (outside : n < 238 ∨ 242 < n) : trackGood n = false := by
  rw [Bool.eq_false_iff, Ne, trackGood_iff]
  omega

/-- The counters of a lock just lost stand as an overflow leaves them, whatever the loss brought about: the overflow changes nothing. -/
theorem overflowAct_of_countersRest {s : State} (rest : CountersRest s.spc) : overflowAct s = done s := by
  unfold overflowAct
  rcases rest with idle | ⟨acquire, closed, base, counter, run⟩
  · rw [idle]
  · have same : { s.spc with windowOpened := false, timeBase := 0, pulseCounter := 0, inBandRun := 0 } = s.spc := by
      cases h : s.spc
      simp_all
    rw [acquire]
    exact congrArg (fun p => done { s with spc := p }) same

theorem exec_timeBaseOverflow_of_countersRest {s : State} (rest : CountersRest s.spc) : exec .timeBaseOverflow s = .next (finish s) :=
  next_of_done (overflowAct_of_countersRest rest)

/-- In READY and FLUSH a lost lock starts the grace (R22). -/
theorem lockLostAct_grace {s : State} (operating : s.csq.lifecycle = .ready ∨ s.csq.lifecycle = .flush) (noGrace : s.csq.grace = none) :
    lockLostAct s = mediaWatch { s with csq := { s.csq with grace := some 2000000 } } := by
  unfold lockLostAct
  rcases operating with ready | flush
  · simp [ready, noGrace, State.modCsq, Config.graceTime]
  · simp [flush, noGrace, State.modCsq, Config.graceTime]

/-- Settles O15: the pulse and the window that lose the lock send one message, which starts the grace and cuts a field in flight. -/
theorem overspeedLosesTheLock : Obligations.OverspeedLosesTheLock := by
  intro o s
  refine ⟨fun notTrack => next_of_done ?idle, fun track few => next_of_done (commutationAct_counts track few), fun track full => ⟨commutationAct_loses track full, ?still⟩,
    fun track full operating noGrace noField => ?loses, fun track full operating noGrace op retry follow => ?cuts,
    fun track count first => ?coincides, fun track low high => next_of_done (overflowAct_good track (trackGood_iff.mpr ⟨low, high⟩)),
    fun track outside first => next_of_done (overflowAct_firstBad track (trackGood_eq_false outside) first),
    fun track outside again => overflowAct_loses track (trackGood_eq_false outside) again,
    fun track outside again operating noGrace noField => ?second⟩
  case idle =>
    unfold commutationAct
    split <;> first | contradiction | rfl
  case still =>
    intro t next
    have lost : CountersRest (commutationAct s).state.spc := by
      rw [commutationAct_loses track full]
      exact .inr ⟨rfl, rfl, rfl, rfl, rfl⟩
    have rest : CountersRest t.spc := (Keeps.of_run (.refl _) next).counters trivial lost
    obtain rfl := Host.Outcome.next.inj next
    rw [exec_timeBaseOverflow_of_countersRest rest]
    exact congrArg Host.Outcome.next (finish_finish _)
  case loses =>
    exact next_of_settle (settle_of (commutationAct_loses track full)
      (drain_of ((lockLostAct_grace (s := { s with spc := lostSpc s.spc }) operating noGrace).trans (mediaWatch_idle noField)) (drain_nil _ _)))
  case cuts =>
    have cut : mediaWatch _ = _ := mediaWatch_cut
      (s := { s with spc := lostSpc s.spc, csq := { s.csq with grace := some 2000000 } }) op retry follow (by
        cases o.dir with
        | read => exact .inr ⟨rfl, rfl⟩
        | write => exact .inl ⟨rfl, by simp [gateAllowed]⟩)
    exact next_of_settle (settle_of (commutationAct_loses track full)
      (drain_of ((lockLostAct_grace (s := { s with spc := lostSpc s.spc }) operating noGrace).trans cut) (drain_nil _ _)))
  case coincides =>
    have next := next_of_done (overflowAct_firstBad track (trackGood_eq_false (by omega)) first)
    refine ⟨next, fun t ht => next_of_done ?_⟩
    obtain rfl : finish _ = t := Host.Outcome.next.inj (next.symm.trans ht)
    exact commutationAct_counts (s := finish _) track (Nat.zero_lt_succ _)
  case second =>
    have lost := overflowAct_loses track (trackGood_eq_false outside) (by omega)
    rw [again] at lost
    exact next_of_settle (settle_of lost (drain_of
      ((lockLostAct_grace (s := { s with spc := { lostSpc s.spc with outOfBandRun := 2 } }) operating noGrace).trans (mediaWatch_idle noField))
      (drain_nil _ _)))

/-! ### The stop check -/

theorem leaverExecuting_of_none {s : State} (noOrder : s.lif.executing = none) : leaverExecuting s = false := by
  simp [leaverExecuting, stopExecuting, ejectExecuting, liveKind, noOrder]

theorem endLeaver_of_none {o : Outcome} {d : Detail} {s : State} (noOrder : s.lif.executing = none) : endLeaver o d s = done s :=
  if_neg (Bool.eq_false_iff.mp (leaverExecuting_of_none noOrder))

theorem leaverExecuting_live {e : Executing} {option : Nat} {s : State} (executing : s.lif.executing = some e) (live : e.remnant = false)
    (leaves : e.order.kind = .stop ∨ e.order.kind = .eject option) : leaverExecuting s = true := by
  rcases leaves with stop | eject
  · simp [leaverExecuting, stopExecuting, liveKind, executing, live, stop]
  · simp [leaverExecuting, ejectExecuting, liveKind, executing, live, eject]

/-- A confirmed stop with nothing that leaves ends in STOPPED (R27, R49). -/
theorem stopConfirmedAct_plain {s : State} (spinDown : s.csq.lifecycle = .spinDown) (noEject : s.csq.ejectPending = false)
    (noNotice : s.csq.insertedDue = false) (reason : s.csq.stopReason ≠ .insert) (noOrder : s.lif.executing = none)
    (notCarried : s.csq.carried ≠ some .eject) :
    stopConfirmedAct s = done { s with csq := { stillCsq .stopped s.csq with carried := none }, sgc := stillSgc s.sgc } := by
  have stopped : attachLeaver (latchInserted (enter .stopped (dropCarried s))) =
      { s with csq := { stillCsq .stopped s.csq with carried := none }, sgc := stillSgc s.sgc } := by
    rw [show latchInserted (enter .stopped (dropCarried s)) = enter .stopped (dropCarried s) from if_neg (Bool.eq_false_iff.mp noNotice)]
    exact if_neg (Bool.eq_false_iff.mp (leaverExecuting_of_none noOrder))
  have noEjectOrder : ejectExecuting s = false := by simp [ejectExecuting, liveKind, noOrder]
  unfold stopConfirmedAct
  rw [if_pos spinDown]
  simp only [stopped]
  refine (if_neg (not_or.mpr ⟨Bool.eq_false_iff.mp noEject, not_or.mpr ⟨Bool.eq_false_iff.mp noEjectOrder, notCarried⟩⟩)).trans ?_
  refine andThen_of (m := []) (endLeaver_of_none (by exact noOrder)) ?_
  exact congrArg done (if_neg fun insert => reason insert.1)

/-- The wait that a third round with rotation leaves (R48). -/
abbrev waitingSpc (p : Spc) : Spc :=
  { p with
    state := .waiting, driveEnable := false, brakeLevel := 0, phase := .idle, speedLock := false, pulseCounter := 0,
    checkWaitTimer := some 5000000, rotationReported := true }

theorem indexPulseAct_persists {s : State} (check : s.spc.phase = .stopCheck) (round : 3 ≤ s.spc.brakingRound) :
    indexPulseAct s = ⟨{ s with spc := waitingSpc s.spc }, if s.spc.rotationReported then [] else [.rotationPersists]⟩ := by
  unfold indexPulseAct
  rw [check]
  exact if_neg (Nat.not_lt.mpr round)

/-- Settles O17: the quiet windows of the check confirm the stop; an index pulse in it ends the braking round or, after the third, reports. -/
theorem stopCheckConfirms : Obligations.StopCheckConfirms := by
  intro e option s
  refine ⟨fun waiting due => next_of_done ?wait, fun check first => next_of_done ?quiet,
    fun check second spinDown noEject noNotice reason noOrder notCarried => ?confirms, fun check round => next_of_done ?brakes,
    fun check round reported => next_of_done ?waits, fun check round unreported spinDown => ⟨fun noOrder => ?persists, fun executing live leaves queue => ?ends⟩⟩
  case wait =>
    unfold checkWaitAct
    exact if_pos ⟨due, waiting⟩
  case quiet => simp [overflowAct, check, first, State.modSpc, Spc.checkWindow]
  case confirms =>
    have act : overflowAct s = ⟨{ s with spc := { s.spc with
          state := .still, driveEnable := false, brakeLevel := 0, phase := .idle, speedLock := false, timeBase := 0, noRotationRun := 2,
          lastCheckConfirmed := true, checkWaitTimer := none, brakingRound := 0, rotationReported := false } }, [.stopConfirmed]⟩ := by
      simp [overflowAct, check, second, stopConfirm, send, State.modSpc, Spc.enter, Spc.setPhase]
    exact next_of_settle (settle_of act (drain_of (stopConfirmedAct_plain spinDown noEject noNotice reason noOrder notCarried) (drain_nil _ _)))
  case brakes =>
    unfold indexPulseAct
    rw [check]
    exact if_pos round
  case waits =>
    rw [indexPulseAct_persists check round, reported]
    simp [waitingSpc, done, reported]
  case persists =>
    have found := indexPulseAct_persists check round
    rw [unreported] at found
    exact next_of_settle (settle_of found (drain_of ((if_pos spinDown).trans (endLeaver_of_none noOrder)) (drain_nil _ _)))
  case ends =>
    have found := indexPulseAct_persists check round
    rw [unreported] at found
    have reported : rotationPersistsAct { s with spc := waitingSpc s.spc } = send .orderEnded (ended
        { tag := e.order.tag, kind := e.order.kind, outcome := .spinFault, blocks := 0, detail := .noDetail, lifecycle := s.csq.lifecycle }
        { s with spc := waitingSpc s.spc, csq := { s.csq with carried := none }, lif := { s.lif with notices := s.lif.notices ||| 16#16 } }) :=
      (if_pos spinDown).trans ((if_pos (leaverExecuting_live executing live leaves)).trans (endOrder_live executing live))
    rw [spinDown] at reported
    refine leads_of (next_of_settle (settle_of found (drain_of reported (drain_orderEnded queue (drain_nil _ _))))) ?_
    rw [startFlushTimer_eq]
    exact ⟨rfl, rfl, rfl, rfl, rfl, rfl, rfl, rfl, rfl, ⟨rfl, rfl, rfl, rfl, rfl⟩, rfl, rfl, rfl, rfl, rfl, rfl, rfl⟩

end Sys2Proof.Machine

/-! Orders at the link: frames turned away, STATUS, and the orders that end or gather at once (R26 to R29, R172 to R180). -/

namespace Sys2Proof.Machine

set_option Elab.async false

/-! ### Frames turned away -/

/-- The state that an answer of one byte leaves (R172). -/
abbrev answered (hand : Byte) (s : State) : State :=
  { s with lif := { s.lif with exchange := .noFrame, cable := [hand] }, sgc := { s.sgc with linkPort := .idle } }

theorem exec_queuedOrder {tag a b : Nat} {image : SettingsImage} {c : Instr} (mem : c ∈ queuedOrders tag a b image) (s : State) :
    ∃ k, exec c s = run (acceptOrder tag k s) := by
  simp only [List.mem_cons, List.not_mem_nil, or_false] at mem
  rcases mem with rfl | rfl | rfl | rfl | rfl | rfl | rfl | rfl | rfl | rfl | rfl | rfl | rfl | rfl | rfl | rfl | rfl | rfl | rfl | rfl | rfl |
    rfl | rfl | rfl | rfl | rfl <;> exact ⟨_, rfl⟩

/-- Settles O32: a tag in use is refused before the places are counted. -/
theorem framesTurnedAway : Obligations.FramesTurnedAway := by
  intro tag a b image s
  refine ⟨rfl, next_of_done ?discarded, fun used c mem => ?refused, fun low unused full c mem => ?busy⟩
  case discarded => simp [badFrameAct, partialAct, satAdd_eq, State.modLif]
  case refused =>
    obtain ⟨k, order⟩ := exec_queuedOrder mem s
    rw [order]
    exact next_of_done (if_pos (.inr used))
  case busy =>
    obtain ⟨k, order⟩ := exec_queuedOrder mem s
    rw [order]
    exact next_of_done ((if_neg (by simp [unused, low])).trans (if_pos full))

/-! ### STATUS -/

/-- Settles O30. -/
theorem takenStatusClears : Obligations.TakenStatusClears := by
  intro x s status
  have act : handshakeAct true s = done (applyClear x ((linkRelease s).modLif fun l => { l with exchange := .noFrame })) := by
    simp only [handshakeAct, if_true, status]
  refine leads_of (next_of_done act) ?_
  simp [applyClear, clearCounters, clearFaults, ChannelRecord.clearFlags, writeHold, channels, channel, ChannelRecord.action, finish, linkRelease,
    KeepsTables]

theorem immediate_of_le {tag : Nat} {f : State → Act} {s : State} (low : tag ≤ 15) : immediate tag f s = f (answered handAccept s) :=
  if_neg (Nat.not_lt.mpr low)

/-- Settles O34. -/
theorem statusReportsTheState : Obligations.StatusReportsTheState := by
  intro tag x s low
  have act : immediate tag (statusAct tag x) s = ⟨answered handAccept s, [.statusReport tag none 0 x]⟩ := immediate_of_le low
  refine leads_of (next_of_settle (settle_of act (drain_of rfl (drain_nil _ _)))) ?_
  and_intros <;> rfl

/-! ### Orders taken by a drive at rest -/

/-- The expected index after a dispatch (R173). -/
def firstIndex (k : OrderKind) (n : Nat) : Nat :=
  match k with
  | .write _ _ | .loadTable _ _ => 0
  | _ => n

/-- The state in which an order begins that finds the queue empty (R173, R177). -/
abbrev accepted (o : Order) (s : State) : State :=
  { s with
    csq := dispatchedCsq s.lif.settings s.csq
    sgc := { s.sgc with linkPort := .idle }
    lif := { s.lif with
      orderQueue := [], exchange := .noFrame, cable := [handAccept], expectedIndex := firstIndex o.kind s.lif.expectedIndex,
      executing := some { order := o, remnant := false, stage := .dispatched, blocks := 0 } } }

theorem makeExecuting_joinQueue {o : Order} {s : State} (queue : s.lif.orderQueue = []) : makeExecuting o (joinQueue o s) = accepted o s := by
  have erased : ([] ++ [o]).erase o = [] := by simp
  unfold makeExecuting joinQueue
  simp only [restartStandby_eq, answer, linkRelease, State.modLif, State.modSgc, queue, erased]
  unfold accepted firstIndex
  cases o.kind <;> rfl

section Accepted

variable {tag : Nat} {k : OrderKind} {s t u : State} (quiet : Quiet tag s) (calm : s.csq.lifecycle ≠ .calibrate ∨ k.needsMedium = false)
include quiet calm

theorem settle_accepted {l : List Signal} (begun : beginOrder ⟨tag, k⟩ (accepted ⟨tag, k⟩ s) = ⟨t, l⟩) (rest : drain 199 l t = u) :
    settle (acceptOrder tag k s) = finish u := by
  obtain ⟨-, -, queue, -⟩ := id quiet
  rw [accepted_now tag k s quiet calm, makeExecuting_joinQueue queue, begun]
  exact congrArg finish rest

/-- An order that ends as it is dispatched leaves its report and starts the flush delay. -/
theorem settle_endedAtOnce {r : Report} (begun : beginOrder ⟨tag, k⟩ (accepted ⟨tag, k⟩ s) = send .orderEnded (ended r t))
    (queue : t.lif.orderQueue = []) : settle (acceptOrder tag k s) = finish (startFlushTimer (ended r t)) :=
  settle_accepted quiet calm begun (drain_orderEnded queue (drain_nil _ _))

end Accepted

theorem beginOrder_ok {o : Order} {s : State} (ok : parameterFault o.kind = none) : beginOrder o s = route o.kind s := by
  simp [beginOrder, ok]

/-- A fault in the parameters ends the order BAD_PARAMETER as it is dispatched (R177). -/
theorem beginOrder_fault {o : Order} {d : Detail} {s : State} (fault : parameterFault o.kind = some d) :
    beginOrder o (accepted o s) = send .orderEnded (ended
      { tag := o.tag, kind := o.kind, outcome := .badParameter, blocks := 0, detail := d, lifecycle := s.csq.lifecycle } (accepted o s)) := by
  unfold beginOrder
  simp only [fault]
  exact endOrder_live (e := ⟨o, false, .dispatched, 0⟩) rfl rfl

/-- Settles O46: the dispatch of a LOAD_TABLE past the check of its parameters goes on to the gathering and to nothing else. -/
theorem loadTablesGather : Obligations.LoadTablesGather := by
  intro tag frames s quiet
  have gathers : ∀ id n, parameterFault (.loadTable id n) = none →
      settle (acceptOrder tag (.loadTable id n) s) = finish (setStage .gathering (accepted ⟨tag, .loadTable id n⟩ s)) :=
    fun id n ok => settle_accepted quiet (.inr rfl) (beginOrder_ok ok) (drain_nil _ _)
  refine ⟨?one, fun oneOrTwo => ?defect, fun notOne => ?fault⟩
  case one =>
    rintro rfl
    refine ⟨leads_of (next_of_settle (gathers 1 1 rfl)) ?_, leads_of (next_of_settle (gathers 2 1 rfl)) ?_,
      leads_of (next_of_settle (gathers 3 1 rfl)) ?_, leads_of (next_of_settle (gathers 4 1 rfl)) ?_,
      leads_of (next_of_settle (gathers 6 1 rfl)) ?_⟩ <;> and_intros <;> rfl
  case defect =>
    have ok : parameterFault (.loadTable 5 frames) = none := by
      rcases oneOrTwo with rfl | rfl <;> rfl
    refine leads_of (next_of_settle (gathers 5 frames ok)) ?_
    and_intros <;> rfl
  case fault =>
    have fault : parameterFault (.loadTable 2 frames) = some (.table 2) := by simp [parameterFault, tableIdOk, frameCountOk, notOne]
    refine leads_of (next_of_settle (settle_endedAtOnce quiet (.inr rfl) (beginOrder_fault fault) rfl)) ?_
    rw [startFlushTimer_eq]
    and_intros <;> rfl

/-- Settles O48. -/
theorem readTablesOffer : Obligations.ReadTablesOffer := by
  intro tag s quiet
  have offers : ∀ id, parameterFault (.readTable id) = none →
      settle (acceptOrder tag (.readTable id) s) = finish ((setStage .offering (accepted ⟨tag, .readTable id⟩ s)).modLif fun l =>
        { l with readImage := tableImage id s, readIndex := 0 }) := by
    intro id ok
    have image : tableImage id (accepted ⟨tag, .readTable id⟩ s) = tableImage id s := by
      unfold tableImage
      split <;> rfl
    refine settle_accepted quiet (.inr rfl) (beginOrder_ok ok) ?_
    show drain 199 [] _ = _
    rw [← image]
    rfl
  refine ⟨leads_of (next_of_settle (offers 1 rfl)) ?_, leads_of (next_of_settle (offers 2 rfl)) ?_, leads_of (next_of_settle (offers 3 rfl)) ?_,
    leads_of (next_of_settle (offers 4 rfl)) ?_, leads_of (next_of_settle (offers 5 rfl)) ?_, leads_of (next_of_settle (offers 6 rfl)) ?_⟩ <;>
    and_intros <;> rfl

end Sys2Proof.Machine

/-! Orders that end as they are dispatched in the state at rest: REMOVAL, SET, START, STOP, EJECT (R26 to R29, R157, R179). -/

namespace Sys2Proof.Machine

set_option Elab.async false

theorem dispatchedCsq_again (x y : Settings) (c : Csq) : dispatchedCsq x (dispatchedCsq y c) = dispatchedCsq x c := by
  unfold dispatchedCsq
  split <;> rfl

theorem dispatchedCsq_of_ne {c : Csq} (x : Settings) (notReady : c.lifecycle ≠ .ready) : dispatchedCsq x c = c := by
  unfold dispatchedCsq
  rw [if_neg notReady]

/-- Settles O38. -/
theorem removalAndSetEndAtOnce : Obligations.RemovalAndSetEndAtOnce := by
  intro tag image s quiet
  have removes : ∀ option, parameterFault (.removal option) = none →
      settle (acceptOrder tag (.removal option) s) = finish (startFlushTimer (ended
        { tag := tag, kind := .removal option, outcome := .done, blocks := 0, detail := .noDetail, lifecycle := s.csq.lifecycle }
        { accepted ⟨tag, .removal option⟩ s with
          csq := { dispatchedCsq s.lif.settings s.csq with removalPrevented := option == 1 } })) := by
    intro option ok
    refine settle_endedAtOnce quiet (.inr rfl) ((beginOrder_ok ok).trans ?_) rfl
    rw [route, removalOrder]
    exact endPlain_live (e := ⟨⟨tag, .removal option⟩, false, .dispatched, 0⟩) rfl rfl
  refine ⟨leads_of (next_of_settle (removes 1 rfl)) ?_, leads_of (next_of_settle (removes 2 rfl)) ?_, fun ok => ?sets, fun bad => ?refuses⟩
  case sets =>
    have begun : setOrder image (accepted ⟨tag, .set image⟩ s) = send .orderEnded (ended
        { tag := tag, kind := .set image, outcome := .done, blocks := 0, detail := .noDetail, lifecycle := s.csq.lifecycle }
        (restartStandby ((accepted ⟨tag, .set image⟩ s).modLif fun l => { l with settings := settingsOf image }))) := by
      rw [setOrder, if_pos ok, restartStandby_eq]
      exact endPlain_live (e := ⟨⟨tag, .set image⟩, false, .dispatched, 0⟩) rfl rfl
    refine leads_of (next_of_settle (settle_endedAtOnce quiet (.inr rfl) begun (by rw [restartStandby_eq]; rfl))) ?_
    rw [startFlushTimer_eq, restartStandby_eq]
    refine ⟨⟨rfl, rfl, rfl, rfl⟩, dispatchedCsq_again _ _ _, ?_⟩
    and_intros <;> rfl
  case refuses =>
    have begun : setOrder image (accepted ⟨tag, .set image⟩ s) = send .orderEnded (ended
        { tag := tag, kind := .set image, outcome := .badParameter, blocks := 0, detail := .noDetail, lifecycle := s.csq.lifecycle }
        (accepted ⟨tag, .set image⟩ s)) := by
      rw [setOrder, if_neg (by simp [bad])]
      exact endPlain_live (e := ⟨⟨tag, .set image⟩, false, .dispatched, 0⟩) rfl rfl
    refine leads_of (next_of_settle (settle_endedAtOnce quiet (.inr rfl) begun rfl)) ?_
    rw [startFlushTimer_eq]
    and_intros <;> rfl
  all_goals
    rw [startFlushTimer_eq]
    and_intros <;> rfl

theorem startByState_ready {s : State} (ready : s.csq.lifecycle = .ready) : startByState s = endPlain .done s := by
  simp [startByState, ready]

theorem stopOrder_stopped {s : State} (stopped : s.csq.lifecycle = .stopped) :
    stopOrder s = endPlain .done { s with csq := { s.csq with
      spinUpRequest := false, stopReason := if s.csq.stopReason = .fault then .fault else .order } } := by
  simp [stopOrder, stopped, State.modCsq, reasonAfter]

/-- Settles O36. -/
theorem startAndStopAtRest : Obligations.StartAndStopAtRest := by
  intro tag s
  refine ⟨fun ⟨quiet, ready, _⟩ => ?start, fun quiet stopped => ?stop⟩
  case start =>
    have begun : startOrder (accepted ⟨tag, .start⟩ s) = send .orderEnded (ended
        { tag := tag, kind := .start, outcome := .done, blocks := 0, detail := .noDetail, lifecycle := s.csq.lifecycle }
        { accepted ⟨tag, .start⟩ s with csq := { dispatchedCsq s.lif.settings s.csq with faultHold := false } }) := by
      rw [startOrder, if_neg (by simp [ready]), startByState_ready (by exact ready)]
      exact endPlain_live (e := ⟨⟨tag, .start⟩, false, .dispatched, 0⟩) rfl rfl
    refine leads_of (next_of_settle (settle_endedAtOnce quiet (.inr rfl) begun rfl)) ?_
    rw [startFlushTimer_eq]
    refine ⟨⟨rfl, rfl, rfl, rfl⟩, rfl, ready, ?_⟩
    and_intros <;> rfl
  case stop =>
    have begun : stopOrder (accepted ⟨tag, .stop⟩ s) = send .orderEnded (ended
        { tag := tag, kind := .stop, outcome := .done, blocks := 0, detail := .noDetail, lifecycle := s.csq.lifecycle }
        { accepted ⟨tag, .stop⟩ s with
          csq := { dispatchedCsq s.lif.settings s.csq with
            spinUpRequest := false, stopReason := if s.csq.stopReason = .fault then .fault else .order } }) := by
      rw [stopOrder_stopped (by exact stopped)]
      exact endPlain_live (e := ⟨⟨tag, .stop⟩, false, .dispatched, 0⟩) rfl rfl
    refine leads_of (next_of_settle (settle_endedAtOnce quiet (.inr rfl) begun rfl)) ?_
    rw [startFlushTimer_eq, dispatchedCsq_of_ne _ (by simp [stopped])]
    and_intros <;> rfl

/-! ### Ejections -/

/-- The state in which the first pulse of a round has fired (R17). -/
abbrev pulsed (r : EjectRound) (s : State) : State :=
  { s with
    csq := { stillCsq .eject s.csq with
      lockEngaged := false, ejectPulses := 1, ejectRound := r, ejectCheck := s.csq.ejectCheck,
      oneShot := some (if s.lif.settings.ejectLong then 160000 else 40000) }
    sgc := stillSgc s.sgc }

theorem senseGone_present {s : State} (present : s.pins.present = true) : senseGone s = done s := by simp [senseGone, present]

theorem senseGone_absent {s : State} (ejecting : s.csq.lifecycle = .eject) (absent : s.pins.present = false) : senseGone s = cartridgeGone s := by
  simp [senseGone, ejecting, absent]

/-- A clean cartridge at rest is ejected at once (R28). -/
theorem beginEjection_clean {s : State} (clean : dirtyCount s = 0) (unmodified : s.txe.labelModified = false) (parked : s.svc.mode = .parked)
    (confirmed : s.spc.lastCheckConfirmed = true) (noStart : startAwaited s = false) (noStop : stopExecuting s = false) :
    beginEjection s = senseGone (pulsed .first { s with csq := { s.csq with spinUpRequest := false } }) := by
  unfold beginEjection
  rw [if_neg (by simp [clean, unmodified]), if_pos ⟨parked, confirmed⟩]
  have awaited : endAwaited .notReady (startRound .first (s.modCsq fun c => { c with spinUpRequest := false })) =
      done (pulsed .first { s with csq := { s.csq with spinUpRequest := false } }) := if_neg (Bool.eq_false_iff.mp noStart)
  have stop : endStopDone (pulsed .first { s with csq := { s.csq with spinUpRequest := false } }) = done _ := if_neg (Bool.eq_false_iff.mp noStop)
  rw [awaited, done_andThen, stop, done_andThen]

/-- The state of a refused ejection (R28). -/
abbrev ejectRefused (s : State) : State :=
  { s with
    csq := { s.csq with ejectPending := false, ejectByButton := false }
    lif := { s.lif with notices := if s.csq.ejectByButton then s.lif.notices ||| 4#16 else s.lif.notices } }

theorem refuseEjection_eq (s : State) :
    refuseEjection s = if ejectExecuting s then endOrder .dirty .noDetail 0 (ejectRefused s)
      else if stopExecuting s then endOrder .done .noDetail 0 (ejectRefused s) else done (ejectRefused s) := by
  unfold refuseEjection ejectRefused
  cases button : s.csq.ejectByButton <;> rfl

theorem ejectOrder_stopped {discard : Bool} {s : State} (stopped : s.csq.lifecycle = .stopped) (allowed : s.csq.removalPrevented = false) :
    ejectOrder discard s = (if discard then discardAct s else done s).andThen ejectByState := by
  simp [ejectOrder, stopped, allowed]

theorem ejectByState_stopped {s : State} (stopped : s.csq.lifecycle = .stopped) : ejectByState s = beginEjection (setStage .departing s) := by
  simp [ejectByState, stopped]

/-- The state in which an EJECT order waits for the ejection. -/
abbrev departing (tag option : Nat) (s : State) : State := setStage .departing (accepted ⟨tag, .eject option⟩ s)

/-- The dirty blocks given up, counted and named, and the label's changes with them (R157). -/
abbrev discarded (s : State) : State :=
  { s with
    txe := { s.txe with labelModified := false, departureWaits := false }
    sgc := { s.sgc with
      segments := s.sgc.segments.map Segment.dropDirty, lostBlocks := satAdd 65535 s.sgc.lostBlocks (dirtyCount s), flushWanted := false }
    lif := { s.lif with notices := s.lif.notices ||| 1024#16 } }

theorem discardAct_stopped {s : State} (stopped : s.csq.lifecycle = .stopped) (noJob : s.txe.job = none) (dirty : dirtyCount s ≠ 0) :
    discardAct s = done (discarded s) := by
  have given : discardBlocks s = { discarded s with txe := s.txe } := if_pos (Nat.pos_of_ne_zero dirty)
  simp [discardAct, stopped, discardActs, discardFlushJob, noJob, done, given, State.modTxe]

theorem dirtyCount_of_dropped {s : State} {l : List Segment} (dropped : s.sgc.segments = l.map Segment.dropDirty) : dirtyCount s = 0 := by
  simp [dirtyCount, dropped, Segment.dropDirty, List.map_map, Function.comp_def]

/-- Settles O37: the order departs with the ejection, which begins, ends at once over an absent cartridge, or is refused over dirty blocks. -/
theorem ejectFromStopped : Obligations.EjectFromStopped := by
  intro tag s quiet stopped allowed
  obtain ⟨-, -, -, -, -, noJob, -⟩ := id quiet
  have plain : beginOrder ⟨tag, .eject 0⟩ (accepted ⟨tag, .eject 0⟩ s) = beginEjection (departing tag 0 s) := by
    rw [beginOrder_ok rfl, route, ejectOrder_stopped (by exact stopped) (by exact allowed)]
    exact ejectByState_stopped stopped
  refine ⟨fun clean unmodified parked confirmed => ?cleanly, fun dirty => ?refused, fun dirty parked confirmed present => ?discards⟩
  case cleanly =>
    have begun := plain.trans (beginEjection_clean clean unmodified parked confirmed rfl rfl)
    refine ⟨fun present => ?stays, fun absent => ?gone⟩
    case stays =>
      rw [senseGone_present (by exact present)] at begun
      refine leads_of (next_of_settle (settle_accepted quiet (.inr rfl) begun (drain_nil _ _))) ?_
      and_intros <;> rfl
    case gone =>
      rw [senseGone_absent rfl (by exact absent), cartridgeGone_eq] at begun
      replace begun := (begun.trans (if_pos rfl)).trans (endOrder_live (e := ⟨⟨tag, .eject 0⟩, false, .departing, 0⟩) rfl rfl)
      refine leads_of (next_of_settle (settle_endedAtOnce quiet (.inr rfl) begun rfl)) ?_
      rw [startFlushTimer_eq]
      refine ⟨⟨rfl, rfl, rfl, rfl⟩, rfl, rfl, rfl, rfl, rfl, fun g mem => ⟨(emptied_of_mem mem).1, (emptied_of_mem mem).2.1⟩, ?_⟩
      and_intros <;> rfl
  case refused =>
    have begun := plain.trans ((if_pos (.inl (by exact dirty))).trans ((refuseEjection_eq _).trans (if_pos rfl)))
    replace begun := begun.trans (endOrder_live (e := ⟨⟨tag, .eject 0⟩, false, .departing, 0⟩) rfl rfl)
    refine leads_of (next_of_settle (settle_endedAtOnce quiet (.inr rfl) begun rfl)) ?_
    rw [startFlushTimer_eq]
    refine ⟨⟨rfl, rfl, rfl, rfl⟩, stopped, ?_⟩
    and_intros <;> rfl
  case discards =>
    let left : State := setStage .departing (discarded (accepted ⟨tag, .eject 1⟩ s))
    have begun : beginOrder ⟨tag, .eject 1⟩ (accepted ⟨tag, .eject 1⟩ s) =
        done (pulsed .first { left with csq := { left.csq with spinUpRequest := false } }) := by
      rw [beginOrder_ok rfl, route, ejectOrder_stopped (by exact stopped) (by exact allowed)]
      change (discardAct (accepted ⟨tag, .eject 1⟩ s)).andThen ejectByState = _
      rw [discardAct_stopped (by exact stopped) (by exact noJob) (by exact dirty)]
      refine (ejectByState_stopped (by exact stopped)).trans ?_
      rw [beginEjection_clean (dirtyCount_of_dropped rfl) rfl (by exact parked) (by exact confirmed) rfl rfl]
      exact senseGone_present present
    refine leads_of (next_of_settle (settle_accepted quiet (.inr rfl) begun (drain_nil _ _))) ?_
    refine ⟨⟨rfl, rfl, rfl, rfl⟩, rfl, rfl, rfl, fun g mem => ?_, satAdd_eq _ _ _, ?_⟩
    · obtain ⟨x, -, rfl⟩ := List.mem_map.mp mem
      rfl
    · and_intros <;> rfl

end Sys2Proof.Machine

/-! Orders on the medium from READY with the slot empty: what their dispatch begins (R111, R118, R127, R138 to R142, R149). -/

namespace Sys2Proof.Machine

set_option Elab.async false

/-! ### A sector operation begun -/

/-- The operation `o` has begun at `s`: its seek is asked for, or its sector looked for; what messages there are find nothing to do. -/
def Positioned (o : SectorOp) (s : State) (a : Act) : Prop :=
  ∃ v p l, a = ⟨{ s with svc := v, txe := { s.txe with op := some { o with phase := p } } }, l⟩ ∧ p ≠ .transferring ∧
    v.cal = s.svc.cal ∧ ∀ g ∈ l, handle g a.state = done a.state

/-- The operation that a target's first sector begins with. -/
abbrev freshOp (target : OpTarget) (d : Direction) (p : Place) : SectorOp :=
  { target := target, dir := d, cylinder := p.cylinder, head := p.head, sector := p.sector, phase := .positioning, retries := 0,
    seekFailures := 0 }

theorem passSeekError_idle {s : State} (idle : s.svc.cal.stage = .idle) : passSeekError s = done s := by simp [passSeekError, idle]

theorem transferSeekError_elsewhere {s : State} (mode : s.svc.mode = .parked ∨ s.svc.mode = .loading ∨ s.svc.mode = .retract ∨ s.svc.mode = .lost) :
    transferSeekError s = done s := by
  unfold transferSeekError
  split
  · rfl
  · rcases mode with mode | mode | mode | mode <;> rw [mode] <;> exact ite_self _

theorem handle_seekError_transfer (s : State) : handle (.seekError .transfer) s = transferSeekError s := rfl

theorem mem_seekErrorTo {g : Signal} {r : Requester} (mem : g ∈ seekErrorTo r) : g = .seekError r ∧ (r = .transfer ∨ r = .calibration) := by
  unfold seekErrorTo at mem
  split at mem
  · exact ⟨List.mem_singleton.mp mem, ‹_›⟩
  · exact nomatch mem

/-- A new request of the transfer engine cuts off no seek of its own. -/
theorem mem_replacedSeek_transfer {g : Signal} {v : Svc} (mem : g ∈ replacedSeek .transfer v) : g = .seekError .calibration := by
  unfold replacedSeek at mem
  split at mem
  · obtain ⟨rfl, transfer | calibration⟩ := mem_seekErrorTo mem
    · exact absurd transfer (by tauto)
    · rw [calibration]
  · exact nomatch mem

theorem positioned_positionOp (o : SectorOp) {s : State} (idle : s.svc.cal.stage = .idle) : Positioned o s (positionOp o s) := by
  unfold positionOp
  split
  · refine ⟨s.svc, _, [], rfl, ?_, rfl, fun _ mem => nomatch mem⟩
    split <;> exact OpPhase.noConfusion
  · unfold seekOp servoTarget
    split
    case h_1 mode | h_2 mode | h_3 mode | h_4 mode =>
      refine ⟨s.svc, .positioning, _, rfl, OpPhase.noConfusion, rfl, fun g mem => ?_⟩
      obtain rfl : g = .seekError .transfer := List.mem_singleton.mp mem
      have elsewhere : s.svc.mode = .parked ∨ s.svc.mode = .loading ∨ s.svc.mode = .retract ∨ s.svc.mode = .lost := by simp [show s.svc.mode = _ from mode]
      exact (handle_seekError_transfer _).trans (transferSeekError_elsewhere (by exact elsewhere))
    case h_5 | h_6 | h_7 =>
      have keepsPass : ∀ v : Svc, (if isHeadSwitch o.cylinder o.head (ladderOffset o.retries) v then v.headSwitch .transfer o.head
          else v.newSeek .transfer o.cylinder o.head (ladderOffset o.retries)).cal = v.cal := fun v => by split <;> rfl
      refine ⟨_, .positioning, _, rfl, OpPhase.noConfusion, keepsPass _, fun g mem => ?_⟩
      obtain rfl := mem_replacedSeek_transfer mem
      exact passSeekError_idle ((congrArg Calibration.stage (keepsPass _)).trans idle)

theorem positioned_beginMapped (target : OpTarget) (d : Direction) {s : State} (idle : s.svc.cal.stage = .idle) :
    Positioned (freshOp target d (mapTarget s.txe target)) s (beginMapped target d s) := positioned_positionOp _ idle

theorem worksOn_fresh {target : OpTarget} {d : Direction} {p : Place} {ph : OpPhase} {t : State}
    (op : t.txe.op = some { freshOp target d p with phase := ph }) (phase : ph ≠ .transferring) : WorksOn target d p t :=
  ⟨_, op, rfl, rfl, rfl, rfl, rfl, rfl, phase⟩

/-! ### The dispatch in READY -/

section Dispatch

variable {tag : Nat} {k : OrderKind} {s : State}

theorem requestSlot_free (noJob : s.txe.job = none) : requestSlot s = takeOrderJob s := by simp [requestSlot, noJob]

/-- An order on the medium goes on at once in READY (R127). -/
theorem beginOrder_proceeds (medium : k.needsMedium = true) (ok : parameterFault k = none) (ready : s.csq.lifecycle = .ready) :
    beginOrder ⟨tag, k⟩ s = proceed s := by
  have goesOn : mediumOrder s = proceed s := by simp [mediumOrder, ready]
  rw [beginOrder_ok ok, ← goesOn]
  cases k <;> first | rfl | exact nomatch medium

theorem proceed_read {first count : Nat} (kind : orderKind s = some (.read first count)) (passed : transferRefused false first count s = none) :
    proceed s = requestSlot s := by simp [proceed, kind, passed]

theorem proceed_write {first count : Nat} (kind : orderKind s = some (.write first count)) (passed : transferRefused true first count s = none) :
    proceed s = requestSlot s := by simp [proceed, kind, passed]

theorem proceed_write_refused {first count : Nat} {r : Outcome × Detail} (kind : orderKind s = some (.write first count))
    (refused : transferRefused true first count s = some r) : proceed s = endOrder r.1 r.2 0 s := by simp [proceed, kind, refused]

end Dispatch

/-- Past the count and the label a transfer is refused for the tab or the range alone (R127). -/
theorem transferRefused_counted {write : Bool} {first count : Nat} {s : State} (least : 1 ≤ count) (most : count ≤ 256)
    (valid : s.txe.labelStatus = .valid) :
    transferRefused write first count s =
      if write ∧ s.csq.writeProtected then some (.writeProtected, .block first)
      else if s.txe.capacity < first + count then some (.outOfRange, .block (if s.txe.capacity ≤ first then first else s.txe.capacity))
      else none := by
  rw [transferRefused, if_neg (by omega), if_neg (by simp [valid]), if_neg (by simp [valid])]

/-- The state in which an order has taken the slot. -/
abbrev inSlot (o : Order) (w : Work) (s : State) : State :=
  { accepted o s with
    txe := { s.txe with orderWaits := false, job := some (orderJob w) }
    lif := { (accepted o s).lif with executing := some { order := o, remnant := false, stage := .inSlot, blocks := 0 } } }

/-- Settles O41: the checks in their order, and then the slot. -/
theorem writeTakesTheSlot : Obligations.WriteTakesTheSlot := by
  intro tag first count s quietReady least most valid
  obtain ⟨quiet, ready, -⟩ := quietReady
  obtain ⟨-, -, -, -, -, noJob, noOrder, -, -, noOp, -, -⟩ := id quiet
  have calm : s.csq.lifecycle ≠ .calibrate := by simp [ready]
  have proceeds : beginOrder ⟨tag, .write first count⟩ (accepted ⟨tag, .write first count⟩ s) = _ := beginOrder_proceeds rfl rfl ready
  have checks : transferRefused true first count (accepted ⟨tag, .write first count⟩ s) = _ := transferRefused_counted least most valid
  have refuses : ∀ r, transferRefused true first count (accepted ⟨tag, .write first count⟩ s) = some r →
      settle (acceptOrder tag (.write first count) s) = finish (startFlushTimer (ended
        { tag := tag, kind := .write first count, outcome := r.1, blocks := 0, detail := r.2, lifecycle := s.csq.lifecycle }
        (accepted ⟨tag, .write first count⟩ s))) := fun r refused =>
    settle_endedAtOnce quiet (.inl calm) ((proceeds.trans (proceed_write_refused rfl refused)).trans
      (endOrder_live (e := ⟨⟨tag, .write first count⟩, false, .dispatched, 0⟩) rfl rfl)) rfl
  refine ⟨fun writable fits => ?takes, fun protected_ => ?protects, fun writable beyond => ?beyond⟩
  case takes =>
    have passed := checks.trans ((if_neg (by simp [writable])).trans (if_neg (Nat.not_lt.mpr fits)))
    have begun := (proceeds.trans (proceed_write rfl passed)).trans (requestSlot_free (by exact noJob))
    refine leads_of (next_of_settle (settle_accepted (t := inSlot ⟨tag, .write first count⟩ (.write (!s.lif.settings.writeBack) []) s)
      quiet (.inl calm) begun (drain_nil _ _))) ?_
    refine ⟨⟨rfl, rfl, rfl, rfl⟩, rfl, rfl, noOp, ?_⟩
    and_intros <;> first | rfl | exact ready
  case protects =>
    refine leads_of (next_of_settle (refuses _ (checks.trans (if_pos ⟨rfl, protected_⟩)))) ?_
    rw [startFlushTimer_eq]
    and_intros <;> rfl
  case beyond =>
    refine leads_of (next_of_settle (refuses _ (checks.trans ((if_neg (by simp [writable])).trans (if_pos beyond))))) ?_
    rw [startFlushTimer_eq]
    and_intros <;> rfl

/-- A seek on a cylinder that is not the target is a new one (R75). -/
theorem positionOp_newSeek {o : SectorOp} {s : State} (mode : s.svc.mode = .follow) (held : s.svc.seekStatus = .onTrack)
    (other : o.cylinder ≠ s.svc.targetCylinder) :
    positionOp o s = done { s with
      svc := s.svc.newSeek .transfer o.cylinder o.head (ladderOffset o.retries), txe := { s.txe with op := some { o with phase := .positioning } } } := by
  have notHeld : targetHeld o s.svc = false := by simp [targetHeld, Ne.symm other]
  have notSwitch : isHeadSwitch o.cylinder o.head (ladderOffset o.retries) s.svc = false := by simp [isHeadSwitch, Ne.symm other]
  simp [positionOp, notHeld, seekOp, servoTarget, setOp, State.modTxe, State.modSvc, mode, replacedSeek, held, notSwitch, done]

/-- A SEEK order that does not find its target held waits for it (R127). -/
theorem seekWork_positions {cylinder head : Nat} {s t : State} {l : List Signal} (kind : orderKind s = some (.seek cylinder head))
    (position : positionOp (freshOp .seekOnly .read ⟨cylinder, head, 0⟩) s = ⟨t, l⟩) (phase : t.txe.op.map (fun o => o.phase) ≠ some .looking) :
    seekWork s = ⟨t, l⟩ := by
  have begun : beginOp .seekOnly .read ⟨cylinder, head, 0⟩ s = ⟨t, l⟩ := position
  simp only [seekWork, kind, begun, phase, if_false]

/-- Settles O39. -/
theorem seekStartsANewSeek : Obligations.SeekStartsANewSeek := by
  intro tag cylinder head s quietReady onTrack idle fits side other
  obtain ⟨quiet, ready, -⟩ := quietReady
  obtain ⟨-, -, -, -, -, noJob, -⟩ := id quiet
  obtain ⟨mode, held, -⟩ := onTrack
  have calm : s.csq.lifecycle ≠ .calibrate := by simp [ready]
  have proceeds : proceed (accepted ⟨tag, .seek cylinder head⟩ s) = takeOrderJob (accepted ⟨tag, .seek cylinder head⟩ s) := by
    rw [← requestSlot_free (by exact noJob)]
    exact (if_neg (Nat.not_lt.mpr side)).trans (if_neg (Nat.not_lt.mpr fits))
  have begun : beginOrder ⟨tag, .seek cylinder head⟩ (accepted ⟨tag, .seek cylinder head⟩ s) =
      seekWork (inSlot ⟨tag, .seek cylinder head⟩ .seek s) :=
    (beginOrder_proceeds rfl rfl (by exact ready)).trans proceeds
  have position := positionOp_newSeek (o := freshOp .seekOnly .read ⟨cylinder, head, 0⟩) (s := inSlot ⟨tag, .seek cylinder head⟩ .seek s) mode held other
  refine leads_of (next_of_settle (settle_accepted quiet (.inl calm) (begun.trans (seekWork_positions rfl position (by simp))) (drain_nil _ _))) ?_
  refine ⟨⟨rfl, rfl, rfl, rfl⟩, ?_⟩
  and_intros <;> first | rfl | exact ready

end Sys2Proof.Machine

/-! The segment cache, searched and asked: records by index, the lowest dirty block, and the segment given for a block (R140 to R144, R152). -/

namespace Sys2Proof.Machine

set_option Elab.async false

/-! ### Records by index -/

section Index

variable {s t : State} {i k : Nat} {f : Segment → Segment}

theorem segmentAt_modify_same (segments : t.sgc.segments = s.sgc.segments.modify i f) (hi : i < s.sgc.segments.length) :
    segmentAt t i = f (segmentAt s i) := by
  simp [segmentAt, segments, hi]

theorem segmentAt_modify_other (segments : t.sgc.segments = s.sgc.segments.modify i f) (other : k ≠ i) : segmentAt t k = segmentAt s k := by
  simp [segmentAt, segments, Ne.symm other]

theorem segmentAt_map (empty : f freeSegment = freeSegment) (segments : t.sgc.segments = s.sgc.segments.map f) :
    segmentAt t k = f (segmentAt s k) := by
  by_cases hk : k < s.sgc.segments.length
  · simp [segmentAt, segments, hk]
  · simp [segmentAt, segments, hk, empty]

theorem map_freed_of_unattached (unattached : Unattached s) : s.sgc.segments.map freed = s.sgc.segments := by
  refine (List.map_congr_left fun g mem => ?_).trans (List.map_id _)
  rw [freed, ← unattached g mem]
  rfl

theorem mem_dirtyBlocks {n : Nat} : n ∈ dirtyBlocks s ↔ ∃ i < s.sgc.segments.length, ∃ o ∈ (segmentAt s i).dirty, n = (segmentAt s i).base + o := by
  simp only [List.mem_flatMap, List.mem_map]
  constructor
  · rintro ⟨g, mem, o, dirty, rfl⟩
    obtain ⟨i, hi, rfl⟩ := List.mem_iff_getElem.mp mem
    rw [← segmentAt_eq_getElem hi] at dirty ⊢
    exact ⟨i, hi, o, dirty, rfl⟩
  · rintro ⟨i, hi, o, dirty, rfl⟩
    rw [segmentAt_eq_getElem hi] at dirty ⊢
    exact ⟨_, List.getElem_mem hi, o, dirty, rfl⟩

theorem dirtyCount_eq_zero_iff : dirtyCount s = 0 ↔ ∀ g ∈ s.sgc.segments, g.dirty = [] := by
  simp [dirtyCount, List.sum_eq_zero_iff]

theorem dirtyCount_eq_zero_iff_dirtyBlocks : dirtyCount s = 0 ↔ dirtyBlocks s = [] := by
  simp [dirtyCount_eq_zero_iff]

end Index

/-! ### The lowest dirty block -/

/-- What the search for the lowest dirty segment has found among the first `n` records. -/
def LowestAmong (s : State) (n : Nat) : Option Nat → Prop
  | none => ∀ j < n, (segmentAt s j).isDirty = false
  | some i => i < n ∧ (segmentAt s i).isDirty = true ∧ ∀ j < n, (segmentAt s j).isDirty = true → (segmentAt s i).base ≤ (segmentAt s j).base

theorem lowestAmong_foldl (s : State) (n : Nat) :
    LowestAmong s n ((List.range n).foldl (fun best i =>
      if (segmentAt s i).isDirty then
        match best with
        | none => some i
        | some j => if (segmentAt s i).base < (segmentAt s j).base then some i else best
      else best) none) := by
  induction n with
  | zero => exact fun j hj => absurd hj (Nat.not_lt_zero j)
  | succ n ih =>
    rw [List.range_succ, List.foldl_append]
    simp only [List.foldl_cons, List.foldl_nil]
    generalize (List.range n).foldl _ none = best at ih ⊢
    split
    next dirty =>
      split
      next =>
        refine ⟨n.lt_succ_self, dirty, fun j hj dirtyJ => ?_⟩
        rcases Nat.lt_succ_iff_lt_or_eq.mp hj with below | rfl
        · exact absurd dirtyJ (by simp [ih j below])
        · exact le_rfl
      next j =>
        obtain ⟨hj, dirtyJ, least⟩ := ih
        split
        next lower =>
          refine ⟨n.lt_succ_self, dirty, fun k hk dirtyK => ?_⟩
          rcases Nat.lt_succ_iff_lt_or_eq.mp hk with below | rfl
          · exact lower.le.trans (least k below dirtyK)
          · exact le_rfl
        next notLower =>
          refine ⟨hj.trans n.lt_succ_self, dirtyJ, fun k hk dirtyK => ?_⟩
          rcases Nat.lt_succ_iff_lt_or_eq.mp hk with below | rfl
          · exact least k below dirtyK
          · exact Nat.not_lt.mp notLower
    next clean =>
      have clean' : (segmentAt s n).isDirty = false := Bool.eq_false_iff.mpr clean
      cases best with
      | none =>
        intro j hj
        rcases Nat.lt_succ_iff_lt_or_eq.mp hj with below | rfl
        · exact ih j below
        · exact clean'
      | some i =>
        obtain ⟨hi, dirty, least⟩ := ih
        refine ⟨hi.trans n.lt_succ_self, dirty, fun j hj dirtyJ => ?_⟩
        rcases Nat.lt_succ_iff_lt_or_eq.mp hj with below | rfl
        · exact least j below dirtyJ
        · exact absurd dirtyJ clean

theorem lowestAmong_lowestDirty (s : State) : LowestAmong s s.sgc.segments.length (lowestDirty s) := lowestAmong_foldl s _

theorem isDirty_iff {g : Segment} : g.isDirty = true ↔ g.dirty ≠ [] := by simp [Segment.isDirty]

theorem lowestDirty_clean {s : State} (clean : dirtyCount s = 0) : lowestDirty s = none := by
  have search := lowestAmong_lowestDirty s
  cases found : lowestDirty s with
  | none => rfl
  | some i =>
    rw [found] at search
    obtain ⟨hi, dirty, -⟩ := search
    rw [segmentAt_eq_getElem hi, isDirty_iff] at dirty
    exact absurd (dirtyCount_eq_zero_iff.mp clean _ (List.getElem_mem hi)) dirty

/-- In a sound cache the search finds the lowest dirty block (R152). -/
theorem lowestDirty_least {n : Nat} {s : State} (sound : CacheSound s) (least : LeastDirty n s) :
    ∃ i < s.sgc.segments.length, lowestDirty s = some i ∧ firstDirty i s = some n := by
  obtain ⟨mem, least⟩ := least
  obtain ⟨j, hj, o, dirtyJ, rfl⟩ := mem_dirtyBlocks.mp mem
  have search := lowestAmong_lowestDirty s
  cases found : lowestDirty s with
  | none =>
    rw [found] at search
    have clean : (segmentAt s j).dirty = [] := by simpa [Segment.isDirty] using search j hj
    exact absurd dirtyJ (by simp [clean])
  | some i =>
    rw [found] at search
    obtain ⟨hi, dirty, lowest⟩ := search
    obtain ⟨x, rest, split⟩ := List.exists_cons_of_ne_nil (isDirty_iff.mp dirty)
    have here : x ∈ (segmentAt s i).dirty := by simp [split]
    refine ⟨i, hi, rfl, ?_⟩
    have below : (segmentAt s j).base + o ≤ (segmentAt s i).base + x := least _ (mem_dirtyBlocks.mpr ⟨i, hi, x, here, rfl⟩)
    obtain ⟨all, distinct, -⟩ := sound
    obtain ⟨aligned, -, ascending, small, valid⟩ := all _ (segmentAt_eq_getElem hi ▸ List.getElem_mem hi)
    obtain ⟨alignedJ, -, -, -, validJ⟩ := all _ (segmentAt_eq_getElem hj ▸ List.getElem_mem hj)
    have above : (segmentAt s i).base + x ≤ (segmentAt s j).base + o := by
      by_cases same : i = j
      · subst same
        rw [split] at ascending dirtyJ
        rcases List.mem_cons.mp dirtyJ with rfl | later
        · exact le_rfl
        · exact Nat.add_le_add_left ((List.pairwise_cons.mp ascending).1 o later).le _
      · have lower := lowest j hj (isDirty_iff.mpr (List.ne_nil_of_mem dirtyJ))
        have holds : (segmentAt s i).holdsWindow = true := by
          simp [Segment.holdsWindow, List.ne_nil_of_mem (valid x here)]
        have holdsJ : (segmentAt s j).holdsWindow = true := by
          simp [Segment.holdsWindow, List.ne_nil_of_mem (validJ o dirtyJ)]
        have apart : (segmentAt s i).base ≠ (segmentAt s j).base := by
          have pair := List.pairwise_iff_getElem.mp distinct
          rw [segmentAt_eq_getElem hi, segmentAt_eq_getElem hj] at *
          rcases Nat.lt_or_gt_of_ne same with before | after
          · exact pair i j hi hj before holds holdsJ
          · exact (pair j i hj hi after holdsJ holds).symm
        have := small x (valid x here)
        omega
    simp [firstDirty, split]
    omega

end Sys2Proof.Machine

/-! Flushes: the work of a FLUSH, a background flush and a departure flush at a sector boundary (R150, R152, R155). -/

namespace Sys2Proof.Machine

set_option Elab.async false

/-- A segment that a flush holds and has nothing left to write is given up. -/
def flushFreed (g : Segment) : Segment := if g.attachment = .flush ∧ g.dirty = [] then { g with attachment := .free } else g

/-- A segment as the flush takes it. -/
def flushHeld (g : Segment) : Segment :=
  if g.holdsWindow then { g with attachment := if g.attachment = .order then .order else .flush } else g

theorem flushFreed_holds (g : Segment) : (flushFreed g).base = g.base ∧ (flushFreed g).valid = g.valid ∧ (flushFreed g).dirty = g.dirty := by
  unfold flushFreed
  split <;> exact ⟨rfl, rfl, rfl⟩

theorem flushHeld_holds (g : Segment) : (flushHeld g).base = g.base ∧ (flushHeld g).valid = g.valid ∧ (flushHeld g).dirty = g.dirty := by
  unfold flushHeld
  split <;> exact ⟨rfl, rfl, rfl⟩

theorem flushFreed_of_free {g : Segment} (free : g.attachment = .free) : flushFreed g = g := if_neg (by simp [free])

theorem attachFlush_eq (i : Nat) (s : State) : attachFlush i s = { s with sgc := { s.sgc with segments := s.sgc.segments.modify i flushHeld } } := rfl

/-- The cache with other records. -/
abbrev withSegments (l : List Segment) (s : State) : State := { s with sgc := { s.sgc with segments := l } }

/-- What a record holds, its attachment aside. -/
def Segment.held (g : Segment) : Nat × List Nat × List Nat := (g.base, g.valid, g.dirty)

theorem held_modify {l : List Segment} {i : Nat} {f : Segment → Segment} (same : ∀ g, (f g).held = g.held) :
    (l.modify i f).map Segment.held = l.map Segment.held := by
  refine List.ext_getElem (by simp) fun k _ _ => ?_
  by_cases hk : i = k
  · simp [hk, same]
  · simp [hk]

theorem held_map {l : List Segment} {f : Segment → Segment} (same : ∀ g, (f g).held = g.held) :
    (l.map f).map Segment.held = l.map Segment.held := by
  rw [List.map_map]
  exact List.map_congr_left fun g _ => same g

theorem held_flushFreed (g : Segment) : (flushFreed g).held = g.held := by
  obtain ⟨base, valid, dirty⟩ := flushFreed_holds g
  simp [Segment.held, base, valid, dirty]

theorem held_flushHeld (g : Segment) : (flushHeld g).held = g.held := by
  obtain ⟨base, valid, dirty⟩ := flushHeld_holds g
  simp [Segment.held, base, valid, dirty]

theorem held_freed (g : Segment) : (freed g).held = g.held := rfl

section Held

variable {s t : State} (same : heldBlocks t = heldBlocks s)
include same

theorem dirtyBlocks_of_held : dirtyBlocks t = dirtyBlocks s := by
  have shape : ∀ u : State, dirtyBlocks u = (heldBlocks u).flatMap fun x => x.2.2.map fun o => x.1 + o := fun u => by
    simp [heldBlocks, List.flatMap_map]
  rw [shape, shape, same]

theorem dirtyCount_of_held : dirtyCount t = dirtyCount s := by
  have shape : ∀ u : State, dirtyCount u = ((heldBlocks u).map fun x => x.2.2.length).sum := fun u => by
    simp [dirtyCount, heldBlocks, Function.comp_def]
  rw [shape, shape, same]

theorem windows_of_held : t.sgc.segments.map (fun g => (g.base, g.valid)) = s.sgc.segments.map (fun g => (g.base, g.valid)) := by
  have shape : ∀ u : State, u.sgc.segments.map (fun g => (g.base, g.valid)) = (heldBlocks u).map fun x => (x.1, x.2.1) := fun u => by
    simp [heldBlocks, Function.comp_def]
  rw [shape, shape, same]

end Held

/-- With nothing dirty the flush is over (R152), unless a departure flush goes on with a modified label. -/
theorem flushWork_clean {s : State} (clean : dirtyCount s = 0)
    (label : s.txe.labelModified = false ∨ (s.txe.job.map fun j => j.role == .departure && j.kind == .flush) ≠ some true) :
    flushWork s = flushOver (withSegments (s.sgc.segments.map flushFreed) s) := by
  have clean' : dirtyCount (releaseFlushed s) = 0 :=
    (dirtyCount_of_held (by exact held_map held_flushFreed)).trans clean
  have unfound : lowestDirty (releaseFlushed s) = none := lowestDirty_clean clean'
  have noLabel : ¬ ((s.txe.job.map fun j => j.role == .departure && j.kind == .flush).getD false ∧ s.txe.labelModified) := by
    rintro ⟨departure, modified⟩
    rcases label with unmodified | other
    · simp [unmodified] at modified
    · cases found : s.txe.job.map (fun j => j.role == .departure && j.kind == .flush) with
      | none => simp [found] at departure
      | some b => simp_all
  unfold flushWork
  simp only [unfound]
  exact if_neg noLabel

/-- A flush begins on the lowest dirty block (R152). -/
theorem flushWork_least {n : Nat} {s : State} (sound : CacheSound s) (least : LeastDirty n s) :
    ∃ segments, segments.map Segment.held = heldBlocks s ∧
      flushWork s = beginMapped (.block n) .write (withSegments segments s) := by
  have dirty : dirtyBlocks (releaseFlushed s) = dirtyBlocks s := dirtyBlocks_of_held (by exact held_map held_flushFreed)
  obtain ⟨i, -, found, first⟩ := lowestDirty_least (s := releaseFlushed s) sound.then_releaseFlushed (by rw [LeastDirty, dirty]; exact least)
  refine ⟨(s.sgc.segments.map flushFreed).modify i flushHeld, (held_modify held_flushHeld).trans (held_map held_flushFreed), ?_⟩
  unfold flushWork
  simp only [found, first]
  rfl

end Sys2Proof.Machine

/-! The end of a sector operation: what a field's end does to the block, and the boundary at which the job goes on (R131, R150 to R155, R181). -/

namespace Sys2Proof.Machine

set_option Elab.async false

/-! ### The slot as an order's job has it -/

theorem orderInSlot_of {j : Job} {s : State} (job : s.txe.job = some j) : orderInSlot s = (j.kind == .order) := by simp [orderInSlot, job]

theorem jobWork_of {j : Job} {s : State} (job : s.txe.job = some j) : jobWork s = some j.work := by simp [jobWork, job]

theorem transferRange_read {first count : Nat} {e : Executing} {s : State} (executing : s.lif.executing = some e)
    (kind : e.order.kind = .read first count) : transferRange s = (first, count) := by simp [transferRange, executing, kind]

theorem transferRange_write {first count : Nat} {e : Executing} {s : State} (executing : s.lif.executing = some e)
    (kind : e.order.kind = .write first count) : transferRange s = (first, count) := by simp [transferRange, executing, kind]

theorem setBlocks_of {n : Nat} {e : Executing} {s : State} (executing : s.lif.executing = some e) :
    setBlocks n s = { s with lif := { s.lif with executing := some { e with blocks := n } } } := by
  simp [setBlocks, State.modLif, executing]

theorem blocksDone_of {e : Executing} {s : State} (executing : s.lif.executing = some e) : blocksDone s = e.blocks := by
  simp [blocksDone, executing]

theorem endOrderJobPlain_of {o : Outcome} {e : Executing} {s : State} (executing : s.lif.executing = some e) :
    endOrderJobPlain o s = endOrderJob o e.order.kind.detail [] s := by simp [endOrderJobPlain, executing]

theorem flushOver_order {j : Job} {s : State} (job : s.txe.job = some j) (order : j.kind = .order) :
    flushOver s = endOrderJobPlain (goodOutcome s) s := by simp [flushOver, job, order]

/-- An order's job has ended with nothing waiting (R127, R142). -/
theorem drain_jobEnded {n : Nat} {r : Report} {s : State} (waits : NothingWaits s) (wanted : s.sgc.flushWanted = false) :
    drain (n + 4) [.slotFree, .orderEnded, .slotIdle] (jobEnded r s) = startFlushTimer (jobEnded r s) := by
  obtain ⟨queue, -, due, order, departure⟩ := waits
  refine drain_slotFree due order departure (drain_orderEnded queue ?_)
  rw [startFlushTimer_eq]
  exact drain_slotIdle wanted (drain_nil _ _)

/-! ### The boundary -/

section Boundary

variable {f : State → Act} {s : State}

/-- Work that is over ends as it is over, an end pending or not (R181). -/
theorem boundary_over (noYield : s.txe.yieldPending = false) (ends : (f s).state.txe.job = none) : boundary f s = f s := by
  simp [boundary, noYield, ends]

/-- Work that goes on is ended by a pending ABORT at the boundary (R181). -/
theorem boundary_ends {j : Job} (noOp : s.txe.op = none) (pending : s.txe.endPending ≠ .no) (job : s.txe.job = some j) (order : j.kind = .order)
    (goesOn : (f s).state.txe.job ≠ none) : boundary f s = endOrderJobPlain .aborted s := by
  simp [boundary, atBoundary, noOp, pending, orderInSlot_of job, order, goesOn]

end Boundary

/-- The state in which a sector operation is over and its job looks for the next. -/
abbrev sectorOver (recovered : Bool) (j : Job) (s : State) : State :=
  { s with
    txe := { s.txe with op := none, gate := false, holdTimer := none, job := some j, jobRecovered := s.txe.jobRecovered || recovered }
    sgc := portReleased s.sgc }

theorem opEnded_of {recovered : Bool} {o : SectorOp} {j : Job} {s : State} (op : s.txe.op = some o) (job : s.txe.job = some j)
    (kind : j.kind ≠ .labelRead) (goesOn : ∀ begun, (j.advance (opPosition o s)).work ≠ .label [] begun) :
    opEnded recovered s = boundary nextSector (sectorOver recovered (j.advance (opPosition o s)) s) := by
  have advanced : modJob (Job.advance (opPosition o s)) ((clearOp s).modTxe fun t => { t with jobRecovered := t.jobRecovered || recovered }) =
      sectorOver recovered (j.advance (opPosition o s)) s := by
    simp [modJob, clearOp, mediaRelease, State.modTxe, State.modSgc, job]
  have incomplete : labelComplete (sectorOver recovered (j.advance (opPosition o s)) s) = false := by
    unfold labelComplete
    split
    next begun work => exact absurd (Option.some.inj work) (goesOn begun)
    next => rfl
  have job' : ((clearOp s).modTxe fun t => { t with jobRecovered := t.jobRecovered || recovered }).txe.job = some j := job
  unfold opEnded
  simp only [op]
  split
  next read _ => exact absurd (congrArg Job.kind (Option.some.inj (job'.symm.trans read))) kind
  next =>
    refine (if_neg ?_).trans (congrArg (boundary nextSector) advanced)
    exact (congrArg labelComplete advanced).trans incomplete ▸ Bool.false_ne_true

theorem nextSector_resumes {j : Job} {s : State} (job : s.txe.job = some j) (flushing : j.flushing = none) : nextSector s = resumeWork s := by
  simp [nextSector, job, flushing]

theorem resumeWork_on {j : Job} {s : State} (job : s.txe.job = some j) (suspended : j.suspended = none)
    (again : ∀ next medium q t failure, j.work ≠ .read next medium (q :: t) failure) : resumeWork s = workOn s := by
  obtain ⟨kind, role, work, flushing, _⟩ := j
  subst suspended
  unfold resumeWork
  simp only [job]
  split
  next found => exact absurd (congrArg Job.work (Option.some.inj found)) (again _ _ _ _ _)
  next found => exact nomatch congrArg Job.suspended (Option.some.inj found)
  next => rfl

/-! ### A write field's end -/

/-- A block is written: it is dirty no more. -/
def cleaned (n : Nat) (g : Segment) : Segment := { g with dirty := eraseNat (n % 16) g.dirty }

/-- Whether a flush is still wanted (R142). -/
def stillWanted (segments : List Segment) (wanted : Bool) : Bool := wanted && decide ((segments.map fun g => g.dirty.length).sum ≠ 0)

theorem clearDirty_eq (i n : Nat) (s : State) :
    clearDirty i n s = { s with sgc := { s.sgc with
      segments := s.sgc.segments.modify i (cleaned n), flushWanted := stillWanted (s.sgc.segments.modify i (cleaned n)) s.sgc.flushWanted } } := by
  rw [clearDirty, dropWantedIfClean_eq]
  rfl

/-- The field on the medium once a sector of a cached block is written. -/
abbrev sentBlock (o : SectorOp) (i n : Nat) (s : State) : SentField :=
  { cylinder := o.cylinder, head := o.head, sector := o.sector, data := readBytes s.sgc.buffer (8192 * i + 512 * (n % 16)) 512 }

/-- The state in which a block has gone out to the medium. -/
abbrev blockSent (o : SectorOp) (i n : Nat) (s : State) : State :=
  { s with
    txe := { s.txe with gate := false, sentField := some (sentBlock o i n s) }
    sgc := { s.sgc with
      segments := s.sgc.segments.modify i (cleaned n), flushWanted := stillWanted (s.sgc.segments.modify i (cleaned n)) s.sgc.flushWanted } }

theorem writeFieldAct_block {o : SectorOp} {n i : Nat} {s : State} (op : s.txe.op = some o) (phase : o.phase = .transferring)
    (dir : o.dir = .write) (target : o.target = .block n) (window : findWindow (windowBase n) s = some i) :
    writeFieldAct s = opEnded (decide (0 < o.retries)) (countWritten n (blockSent o i n s)) := by
  unfold writeFieldAct
  simp only [op, phase, dir, target, window, clearDirty_eq]
  rfl

theorem countWritten_flush {n : Nat} {e : Executing} {s : State} (job : s.txe.job = some (orderJob .flush)) (executing : s.lif.executing = some e) :
    countWritten n s = { s with lif := { s.lif with executing := some { e with blocks := e.blocks + 1 } } } := by
  simp [countWritten, orderInSlot_of job, jobWork_of job, setBlocks_of executing, blocksDone_of executing]

/-! ### The dirty blocks that are left -/

theorem findWindow_held {i : Nat} {s : State} (sound : CacheSound s) (hi : i < s.sgc.segments.length) (holds : (segmentAt s i).holdsWindow = true) :
    findWindow (segmentAt s i).base s = some i := by
  obtain ⟨-, distinct, -⟩ := sound
  refine List.findIdx?_eq_some_iff_getElem.mpr ⟨hi, by simp [← segmentAt_eq_getElem hi, holds], fun j before => ?_⟩
  have hj := before.trans hi
  have apart := List.pairwise_iff_getElem.mp distinct j i hj hi before
  rw [← segmentAt_eq_getElem hi, ← segmentAt_eq_getElem hj] at apart
  rw [← segmentAt_eq_getElem hj]
  simp only [Bool.and_eq_true, beq_iff_eq, not_and]
  exact fun same held => apart held holds same

theorem dirty_located {n : Nat} {s : State} (sound : CacheSound s) (dirty : n ∈ dirtyBlocks s) :
    ∃ i < s.sgc.segments.length, findWindow (windowBase n) s = some i ∧ (segmentAt s i).base = windowBase n ∧ n % 16 ∈ (segmentAt s i).dirty := by
  obtain ⟨i, hi, o, mem, rfl⟩ := mem_dirtyBlocks.mp dirty
  obtain ⟨aligned, -, -, small, valid⟩ := sound.1 _ (segmentAt_eq_getElem hi ▸ List.getElem_mem hi)
  have below := small o (valid o mem)
  have base : windowBase ((segmentAt s i).base + o) = (segmentAt s i).base := by
    unfold windowBase
    omega
  have offset : ((segmentAt s i).base + o) % 16 = o := by omega
  have holds : (segmentAt s i).holdsWindow = true := by simp [Segment.holdsWindow, List.ne_nil_of_mem (valid o mem)]
  exact ⟨i, hi, base.symm ▸ findWindow_held sound hi holds, base.symm, offset.symm ▸ mem⟩

/-- The block written leaves the dirty blocks, and the others stay (R150). -/
theorem dirtyBlocks_cleaned {n i : Nat} {s t : State} (sound : CacheSound s) (window : findWindow (windowBase n) s = some i)
    (segments : t.sgc.segments.map Segment.held = (s.sgc.segments.modify i (cleaned n)).map Segment.held) :
    dirtyBlocks t = (dirtyBlocks s).filter fun k => k != n := by
  obtain ⟨hi, base, holds⟩ := findWindow_some window
  have same : dirtyBlocks t = (s.sgc.segments.modify i (cleaned n)).flatMap fun g => g.dirty.map fun o => g.base + o :=
    dirtyBlocks_of_held (s := { s with sgc := { s.sgc with segments := s.sgc.segments.modify i (cleaned n) } }) (by exact segments)
  rw [same, List.filter_flatMap, List.flatMap_def, List.flatMap_def]
  congr 1
  refine List.ext_getElem (by simp) fun k hk _ => ?_
  have hk : k < s.sgc.segments.length := by simpa using hk
  obtain ⟨aligned, -, -, small, valid⟩ := sound.1 _ (List.getElem_mem hk)
  have windowN : n = windowBase n + n % 16 := by unfold windowBase; omega
  simp only [List.getElem_map, List.getElem_modify]
  split
  next here =>
    subst here
    rw [segmentAt_eq_getElem hk] at base
    simp only [cleaned, eraseNat, List.filter_map]
    congr 1
    refine List.filter_congr fun o _ => ?_
    show (o != n % 16) = (s.sgc.segments[i].base + o != n)
    rw [Bool.eq_iff_iff, bne_iff_ne, bne_iff_ne]
    omega
  next other =>
    refine (List.filter_eq_self.mpr fun x mem => ?_).symm
    obtain ⟨o, dirty, rfl⟩ := List.mem_map.mp mem
    have below := small o (valid o dirty)
    have holds : (segmentAt s k).holdsWindow = true := by
      simp [segmentAt_eq_getElem hk, Segment.holdsWindow, List.ne_nil_of_mem (valid o dirty)]
    refine bne_iff_ne.mpr fun here => other ?_
    have same : (segmentAt s k).base = windowBase n := by
      rw [segmentAt_eq_getElem hk]
      unfold windowBase
      omega
    exact Option.some.inj (window.symm.trans (same ▸ findWindow_held sound hk holds))

theorem windows_cleaned (i n : Nat) (l : List Segment) :
    (l.modify i (cleaned n)).map (fun g => (g.base, g.valid)) = l.map fun g => (g.base, g.valid) := by
  refine List.ext_getElem (by simp) fun k _ _ => ?_
  by_cases hk : i = k
  · simp [hk, cleaned]
  · simp [hk]

theorem least_exists {n : Nat} {s : State} (dirty : n ∈ dirtyBlocks s) : ∃ k, LeastDirty k s := by
  classical
  have some_ : ∃ k, k ∈ dirtyBlocks s := ⟨n, dirty⟩
  exact ⟨Nat.find some_, Nat.find_spec some_, fun m mem => Nat.find_min' some_ mem⟩

/-- The state in which a sector operation has begun. -/
abbrev opBegun (o : SectorOp) (p : OpPhase) (v : Svc) (s : State) : State :=
  { s with svc := v, txe := { s.txe with op := some { o with phase := p } } }

theorem Positioned.begun {o : SectorOp} {s : State} {a : Act} (h : Positioned o s a) :
    ∃ v p l, p ≠ .transferring ∧ v.cal = s.svc.cal ∧ a = ⟨opBegun o p v s, l⟩ ∧
      ∀ g ∈ l, handle g (opBegun o p v s) = done (opBegun o p v s) := by
  obtain ⟨v, p, l, rfl, phase, cal, ignored⟩ := h
  exact ⟨v, p, l, phase, cal, rfl, ignored⟩

/-- A flush begins on the lowest dirty block (R152). -/
theorem flushWork_begun {n : Nat} {s : State} (sound : CacheSound s) (least : LeastDirty n s) (idle : s.svc.cal.stage = .idle) :
    ∃ segments v p l, segments.map Segment.held = heldBlocks s ∧ p ≠ .transferring ∧ v.cal = s.svc.cal ∧
      flushWork s = ⟨opBegun (freshOp (.block n) .write (mapBlock s.txe n)) p v (withSegments segments s), l⟩ ∧
      ∀ g ∈ l, handle g (opBegun (freshOp (.block n) .write (mapBlock s.txe n)) p v (withSegments segments s)) =
        done (opBegun (freshOp (.block n) .write (mapBlock s.txe n)) p v (withSegments segments s)) := by
  obtain ⟨segments, same, begins⟩ := flushWork_least sound least
  obtain ⟨v, p, l, phase, cal, begun, ignored⟩ := (positioned_beginMapped (.block n) .write (s := withSegments segments s) idle).begun
  exact ⟨segments, v, p, l, same, phase, cal, begins.trans begun, ignored⟩

/-! ### The FLUSH order -/

section FlushOrder

variable {o : SectorOp} {n i : Nat} {e : Executing} {s : State}

theorem nextSector_flush (job : s.txe.job = some (orderJob .flush)) : nextSector s = flushWork s := by
  rw [nextSector_resumes job rfl, resumeWork_on job rfl (by simp)]
  simp [workOn, jobWork_of job]

theorem stillWanted_clean {segments : List Segment} {wanted : Bool} (clean : (segments.map fun g => g.dirty.length).sum = 0) :
    stillWanted segments wanted = false := by simp [stillWanted, clean]

/-- The cache with every segment given up that a flush held to no purpose. -/
abbrev flushReleased (s : State) : State := withSegments (s.sgc.segments.map flushFreed) s

/-- A FLUSH order with nothing left to write ends (R155). -/
theorem flushWork_ends (clean : dirtyCount s = 0) (job : s.txe.job = some (orderJob .flush)) (executing : s.lif.executing = some e)
    (live : e.remnant = false) :
    flushWork s = ⟨jobEnded
      { tag := e.order.tag, kind := e.order.kind, outcome := goodOutcome s, blocks := e.blocks, detail := e.order.kind.detail,
        lifecycle := s.csq.lifecycle } (flushReleased s), [.slotFree, .orderEnded, .slotIdle]⟩ := by
  exact (flushWork_clean clean (.inr (by simp [job]))).trans ((flushOver_order (s := flushReleased s) (j := orderJob .flush) job rfl).trans
    ((endOrderJobPlain_of (by exact executing)).trans (endOrderJob_live (by exact executing) live)))

/-- The state at the boundary after a FLUSH order has written a block. -/
abbrev flushedOne (o : SectorOp) (i n : Nat) (e : Executing) (s : State) : State :=
  let t := blockSent o i n s
  sectorOver (decide (0 < o.retries)) (orderJob .flush) { t with lif := { t.lif with executing := some { e with blocks := e.blocks + 1 } } }

theorem writeFieldAct_flush (op : s.txe.op = some o) (phase : o.phase = .transferring)
    (dir : o.dir = .write) (target : o.target = .block n) (window : findWindow (windowBase n) s = some i)
    (job : s.txe.job = some (orderJob .flush)) (executing : s.lif.executing = some e) :
    writeFieldAct s = boundary nextSector (flushedOne o i n e s) := by
  rw [writeFieldAct_block op phase dir target window, countWritten_flush (e := e) (by exact job) (by exact executing)]
  exact opEnded_of (j := orderJob .flush) op job JobKind.noConfusion fun _ => Work.noConfusion

theorem cacheSound_flushedOne (sound : CacheSound s) : CacheSound (flushedOne o i n e s) := by
  have cleared := sound.then_clearDirty i n
  rw [clearDirty_eq] at cleared
  exact cleared

end FlushOrder

theorem settle_acceptedJobEnded {tag : Nat} {k : OrderKind} {r : Report} {s t : State} (quiet : Quiet tag s)
    (calm : s.csq.lifecycle ≠ .calibrate ∨ k.needsMedium = false)
    (begun : beginOrder ⟨tag, k⟩ (accepted ⟨tag, k⟩ s) = ⟨jobEnded r t, [.slotFree, .orderEnded, .slotIdle]⟩) (waits : NothingWaits t)
    (wanted : t.sgc.flushWanted = false) : settle (acceptOrder tag k s) = finish (startFlushTimer (jobEnded r t)) :=
  settle_accepted quiet calm begun (drain_jobEnded waits wanted)

/-- Settles O42: the search for the lowest dirty block, at the dispatch and at each boundary. -/
theorem flushWritesInOrder : Obligations.FlushWritesInOrder := by
  intro tag n m o e s idle
  have takes : QuietReady tag s → beginOrder ⟨tag, .flush⟩ (accepted ⟨tag, .flush⟩ s) = flushWork (inSlot ⟨tag, .flush⟩ .flush s) := by
    rintro ⟨⟨-, -, -, -, -, noJob, -⟩, ready, -⟩
    exact (beginOrder_proceeds rfl rfl (by exact ready)).trans (requestSlot_free (by exact noJob))
  refine ⟨fun quietReady clean unattached => ?clean, fun quietReady sound least => ?begins,
    fun sound dirty op phase dir target job executing noYield => ?writes⟩
  case clean =>
    obtain ⟨quiet, ready, due⟩ := id quietReady
    obtain ⟨-, -, -, -, -, -, -, noDeparture, wanted, -, -, good⟩ := id quiet
    have begun := (takes quietReady).trans (flushWork_ends (e := ⟨⟨tag, .flush⟩, false, .inSlot, 0⟩) (by exact clean) rfl rfl rfl)
    have outcome : goodOutcome (inSlot ⟨tag, .flush⟩ .flush s) = .done := by simp [goodOutcome, good]
    rw [outcome] at begun
    have unchanged : (s.sgc.segments.map flushFreed).map freed = s.sgc.segments := by
      rw [List.map_congr_left fun g mem => flushFreed_of_free (unattached g mem), List.map_id']
      exact map_freed_of_unattached unattached
    refine leads_of (next_of_settle (settle_acceptedJobEnded quiet (.inl (by simp [ready])) begun ⟨rfl, ready, due, rfl, noDeparture⟩ wanted)) ?_
    rw [startFlushTimer_eq]
    refine ⟨?_, rfl, ?_, ?_, ⟨unchanged, rfl, rfl, rfl, rfl⟩, ?_⟩ <;> and_intros <;> rfl
  case begins =>
    obtain ⟨quiet, ready, -⟩ := id quietReady
    obtain ⟨-, -, -, -, -, -, -, -, -, -, gate, -⟩ := id quiet
    obtain ⟨segments, v, p, l, same, phase, -, begun, ignored⟩ := flushWork_begun (s := inSlot ⟨tag, .flush⟩ .flush s) sound least idle
    refine leads_of (next_of_settle (settle_accepted quiet (.inl (by simp [ready])) ((takes quietReady).trans begun) (drain_ignored ignored))) ?_
    refine ⟨⟨rfl, rfl, rfl, rfl⟩, rfl, worksOn_fresh rfl phase, same, rfl, ?_, ?_, ready⟩
    · exact Bool.and_eq_false_imp.mpr fun open_ => absurd open_ (by simp [gate])
    · and_intros <;> rfl
  case writes =>
    obtain ⟨i, -, window, -⟩ := dirty_located sound dirty
    have act := writeFieldAct_flush (e := e) op phase dir target window job executing
    have left : dirtyBlocks (flushedOne o i n e s) = (dirtyBlocks s).filter fun k => k != n := dirtyBlocks_cleaned sound window rfl
    have windows := windows_cleaned i n s.sgc.segments
    have goesOn := nextSector_flush (s := flushedOne o i n e s) rfl
    refine ⟨fun noEnd dirtyM other least => ?next, fun abort dirtyM other live kind waits wanted => ?aborted, fun last live kind waits => ?last⟩
    case next =>
      have leastM : LeastDirty m (flushedOne o i n e s) := by
        rw [LeastDirty, left]
        refine ⟨List.mem_filter.mpr ⟨dirtyM, bne_iff_ne.mpr other⟩, fun k mem => ?_⟩
        obtain ⟨dirtyK, otherK⟩ := List.mem_filter.mp mem
        exact least k dirtyK (bne_iff_ne.mp otherK)
      obtain ⟨segments, v, p, l, same, phase, -, begun, ignored⟩ := flushWork_begun (cacheSound_flushedOne (e := e) sound) leastM idle
      refine leads_of (next_of_settle (settle_of (act.trans ((boundary_free (by exact noEnd) (by exact noYield)).trans (goesOn.trans begun)))
        (drain_ignored ignored))) ?_
      refine ⟨(dirtyBlocks_of_held (by exact same)).trans left,
        (windows_of_held (s := flushedOne o i n e s) (by exact same)).trans windows, rfl, job.symm, worksOn_fresh rfl phase, rfl, rfl, ?_, rfl, rfl⟩
      and_intros <;> rfl
    case aborted =>
      have dirtyLeft : m ∈ dirtyBlocks (flushedOne o i n e s) := by
        rw [left]
        exact List.mem_filter.mpr ⟨dirtyM, bne_iff_ne.mpr other⟩
      obtain ⟨k, leastK⟩ := least_exists dirtyLeft
      have stays : (nextSector (flushedOne o i n e s)).state.txe.job ≠ none := by
        obtain ⟨segments, v, p, l, -, -, -, begun, -⟩ := flushWork_begun (cacheSound_flushedOne (e := e) sound) leastK idle
        rw [goesOn, begun]
        exact Option.some_ne_none _
      have ends := act.trans ((boundary_ends (s := flushedOne o i n e s) rfl (by simp [abort]) rfl rfl stays).trans (endOrderJobPlain_of rfl))
      refine leads_of (next_of_settle (settle_endOrderJob (s := flushedOne o i n e s) ends rfl live waits ?_)) ?_
      · simp [stillWanted, wanted]
      · rw [startFlushTimer_eq]
        refine ⟨(dirtyBlocks_of_held (by exact held_map held_freed)).trans left,
          (windows_of_held (s := flushedOne o i n e s) (by exact held_map held_freed)).trans windows, rfl, rfl, rfl, ?_, rfl, rfl, ?_, ?_, rfl⟩
        · simp [kind, OrderKind.detail]
        all_goals and_intros <;> rfl
    case last =>
      have clean : dirtyBlocks (flushedOne o i n e s) = [] := by simp [left, last]
      have ends := goesOn.trans (flushWork_ends (e := { e with blocks := e.blocks + 1 }) (dirtyCount_eq_zero_iff_dirtyBlocks.mpr clean) rfl rfl live)
      have wanted : (flushedOne o i n e s).sgc.flushWanted = false := stillWanted_clean (dirtyCount_eq_zero_iff_dirtyBlocks.mpr clean)
      have whole := act.trans ((boundary_over (s := flushedOne o i n e s) noYield (by rw [ends])).trans ends)
      refine leads_of (next_of_settle (settle_of whole (drain_jobEnded (by exact waits) (by exact wanted)))) ?_
      rw [startFlushTimer_eq]
      have same := (held_map (l := (flushedOne o i n e s).sgc.segments.map flushFreed) held_freed).trans (held_map held_flushFreed)
      refine ⟨(dirtyBlocks_of_held (s := flushedOne o i n e s) (by exact same)).trans clean,
        (windows_of_held (s := flushedOne o i n e s) (by exact same)).trans windows, rfl, rfl, rfl, ?_, rfl, rfl, ?_, ?_, rfl⟩
      · obtain ⟨-, ready, -⟩ := waits
        simp [kind, OrderKind.detail, goodOutcome, ready]
      all_goals and_intros <;> rfl

end Sys2Proof.Machine

/-! The hold wait and the flush delay, and the end of a write field of each job (R118 to R120, R131, R133, R150 to R155). -/

namespace Sys2Proof.Machine

set_option Elab.async false

/-! ### The hold wait and the flush delay -/

theorem yieldIfDue_of_not_due {s : State} (due : s.svc.cal.due = false) : yieldIfDue s = done s := by simp [yieldIfDue, due]

theorem requestBackground_of_job {s : State} (job : s.txe.job.isSome = true) : requestBackground s = done s := by
  simp [requestBackground, Option.ne_none_iff_isSome.mpr job]

theorem requestBackground_unwanted {s : State} (wanted : s.sgc.flushWanted = false) : requestBackground s = done s := by
  simp [requestBackground, wanted]

/-- The slot taken by a background flush (R154). -/
abbrev inBackground (s : State) : State :=
  { s with txe := { s.txe with job := some (flushJob .background) }, sgc := { s.sgc with flushWanted := false } }

theorem requestBackground_takes {s : State} (job : s.txe.job = none) (ready : s.csq.lifecycle = .ready) (wanted : s.sgc.flushWanted = true)
    (order : s.txe.orderWaits = false) (departure : s.txe.departureWaits = false) :
    requestBackground s = (flushWork (inBackground s)).andThen yieldIfDue :=
  if_pos ⟨by simp [job], ready, wanted, order, departure⟩

theorem flushDelayAct_running {s : State} (running : s.sgc.flushTimer.isSome = true) :
    flushDelayAct s = requestBackground { s with
      sgc := { s.sgc with flushTimer := none, flushWanted := s.sgc.flushWanted || decide (dirtyCount s ≠ 0) } } := if_pos running

theorem dirtyCount_ne_zero {n : Nat} {s : State} (dirty : n ∈ dirtyBlocks s) : dirtyCount s ≠ 0 := fun clean =>
  List.ne_nil_of_mem dirty (dirtyCount_eq_zero_iff_dirtyBlocks.mp clean)

/-- Settles O26. -/
theorem holdWaitAndFlushDelayExpire : Obligations.HoldWaitAndFlushDelayExpire := by
  intro o n e s
  refine ⟨fun timer op target job executing live kind waits wanted => ?held, fun running busy => ?waits,
    fun running job ready order departure due idle sound least => ?begins, fun running job wanted clean => ?clean⟩
  case held =>
    have act : holdWaitAct s = endOrderJob .held (.block n) [] (clearOp s) := by
      have fails : opFailed .held s = endOrderJob .held (opDetail o.target) [] (clearOp s) := by simp [opFailed, op, job]
      rw [holdWaitAct, if_pos timer, fails, target]
      rfl
    refine leads_of (next_of_settle (settle_endOrderJob (s := clearOp s) act (by exact executing) live waits wanted)) ?_
    rw [startFlushTimer_eq]
    refine ⟨rfl, rfl, rfl, rfl, ?_, held_map held_freed, rfl, rfl, rfl, ?_, ?_, ?_⟩
    · rw [kind]
      rfl
    all_goals and_intros <;> rfl
  case waits => exact next_of_done ((flushDelayAct_running running).trans (requestBackground_of_job busy))
  case begins =>
    obtain ⟨dirty, -⟩ := id least
    have takes := requestBackground_takes
      (s := { s with sgc := { s.sgc with flushTimer := none, flushWanted := s.sgc.flushWanted || decide (dirtyCount s ≠ 0) } })
      job ready (by simp [dirtyCount_ne_zero dirty]) order departure
    obtain ⟨segments, v, p, l, same, phase, cal, begun, ignored⟩ := flushWork_begun
      (s := inBackground { s with sgc := { s.sgc with flushTimer := none, flushWanted := s.sgc.flushWanted || decide (dirtyCount s ≠ 0) } })
      sound least idle
    have act := (flushDelayAct_running running).trans (takes.trans (andThen_of begun (yieldIfDue_of_not_due (by rw [cal]; exact due))))
    refine leads_of (next_of_settle (settle_of act ((List.append_nil l).symm ▸ drain_ignored ignored))) ?_
    refine ⟨rfl, worksOn_fresh rfl phase, rfl, rfl, same, rfl, rfl, rfl, rfl, ?_, ?_, rfl, rfl⟩ <;> and_intros <;> rfl
  case clean =>
    refine next_of_done ((flushDelayAct_running running).trans ((requestBackground_unwanted ?_).trans ?_))
    · simp [wanted, clean]
    · simp [wanted, clean]

/-! ### The end of a write field, job by job -/

section Through

variable {o : SectorOp} {n i : Nat} {s : State}

theorem segmentFlushOver_of {j : Job} (job : s.txe.job = some j) :
    segmentFlushOver i s = resumeWork { s with
      txe := { s.txe with job := some { j with flushing := none } }
      sgc := { s.sgc with segments := s.sgc.segments.modify i freed } } := by
  simp [segmentFlushOver, modJob, attach, modSegment, State.modTxe, State.modSgc, job]

theorem firstDirty_clean (clean : (segmentAt s i).dirty = []) : firstDirty i s = none := by simp [firstDirty, clean]

theorem nextSector_flushed {j : Job} (job : s.txe.job = some j) (flushing : j.flushing = some i) (clean : (segmentAt s i).dirty = []) :
    nextSector s = segmentFlushOver i s := by
  simp [nextSector, job, flushing, firstDirty_clean clean]

theorem eraseNat_single : eraseNat n [n] = [] := by simp [eraseNat]

/-- The state in which the last dirty block of a segment has gone out and the segment is released. -/
abbrev segmentFlushed (o : SectorOp) (i n : Nat) (j : Job) (l : Lif) (s : State) : State :=
  withSegments ((s.sgc.segments.modify i (cleaned n)).modify i freed)
    (sectorOver (decide (0 < o.retries)) { j with flushing := none } { blockSent o i n s with lif := l })

theorem segmentAt_segmentFlushed_same {j : Job} {l : Lif} (hi : i < s.sgc.segments.length) (last : (segmentAt s i).dirty = [n % 16]) :
    segmentAt (segmentFlushed o i n j l s) i = { segmentAt s i with dirty := [], attachment := .free } := by
  rw [segmentAt_modify_same (s := blockSent o i n s) rfl (by simpa using hi), segmentAt_modify_same (s := s) rfl hi]
  simp [cleaned, last, eraseNat_single]

theorem segmentAt_segmentFlushed_other {k : Nat} {j : Job} {l : Lif} (other : k ≠ i) :
    segmentAt (segmentFlushed o i n j l s) k = segmentAt s k := by
  rw [segmentAt_modify_other (s := blockSent o i n s) rfl other, segmentAt_modify_other (s := s) rfl other]

/-- The segment whose last dirty block was written is released, with its recency unchanged (R153). -/
theorem writeFieldAct_lastOfSegment {j : Job} {l : Lif} (op : s.txe.op = some o) (phase : o.phase = .transferring) (dir : o.dir = .write)
    (target : o.target = .block n) (window : findWindow (windowBase n) s = some i) (last : (segmentAt s i).dirty = [n % 16])
    (noEnd : s.txe.endPending = .no) (noYield : s.txe.yieldPending = false) (job : s.txe.job = some j) (flushing : j.flushing = some i)
    (kind : j.kind ≠ .labelRead) (work : ∀ begun, j.work ≠ .label [] begun)
    (counted : countWritten n (blockSent o i n s) = { blockSent o i n s with lif := l }) :
    writeFieldAct s = resumeWork (segmentFlushed o i n j l s) := by
  obtain ⟨hi, -, -⟩ := findWindow_some window
  have stays : ∀ q, j.advance q = j := fun q => by simp [Job.advance, flushing]
  have ended := opEnded_of (recovered := decide (0 < o.retries)) (s := { blockSent o i n s with lif := l }) op job kind
    (fun begun => by rw [stays]; exact work begun)
  rw [stays] at ended
  have clean : (segmentAt (sectorOver (decide (0 < o.retries)) j { blockSent o i n s with lif := l }) i).dirty = [] := by
    rw [segmentAt_modify_same (s := s) rfl hi]
    simp [cleaned, last, eraseNat_single]
  rw [writeFieldAct_block op phase dir target window, counted, ended, boundary_free (by exact noEnd) (by exact noYield),
    nextSector_flushed rfl flushing clean, segmentFlushOver_of rfl]

end Through

/-! ### A departure whose flush is over -/

/-- The slot given up at once with everything that waits for it. -/
abbrev slotCleared (s : State) : State :=
  { s with txe := { closedTxe s.txe with orderWaits := false, departureWaits := false }, sgc := closedSgc s.sgc }

theorem endJobNow_eq {s : State} (noLabel : ∀ todo begun, jobWork s ≠ some (.label todo begun)) : endJobNow s = slotCleared s := by
  unfold endJobNow
  split
  next work => exact absurd work (noLabel _ _)
  next => rfl

theorem servoRetract_moving {s : State} (mode : s.svc.mode = .seek ∨ s.svc.mode = .settle ∨ s.svc.mode = .follow)
    (notOut : s.svc.seekStatus ≠ .outstanding) : servoRetract s = done { s with svc := retractedSvc s.svc } := by
  have cut : cutOffSeek (s.modSvc (Svc.retractTo .retract .requested)) = done (s.modSvc (Svc.retractTo .retract .requested)) := if_neg notOut
  rcases mode with mode | mode | mode <;> simp only [servoRetract, mode] <;> exact cut

/-- The state in which a departure has gone on to UNLOAD (R17). -/
abbrev unloaded (v : Svc) (s : State) : State :=
  { slotCleared s with csq := { stillCsq .unload s.csq with causes := noCauses }, svc := v, sgc := stillSgc (closedSgc s.sgc) }

theorem flushCompleteAct_unloads {v : Svc} {s : State} (flush : s.csq.lifecycle = .flush)
    (noLabel : ∀ todo begun, jobWork s ≠ some (.label todo begun)) (noOrder : s.lif.executing = none)
    (heads : (OnTrack s ∧ v = retractedSvc s.svc) ∨ ((s.svc.mode = .lost ∨ s.svc.mode = .retract) ∧ v = s.svc)) :
    flushCompleteAct s = done (unloaded v s) := by
  have unloads : enterUnload (clearCauses (endJobNow s)) = done (unloaded v s) := by
    rw [endJobNow_eq noLabel]
    rcases heads with ⟨⟨mode, status, -⟩, rfl⟩ | ⟨mode | mode, rfl⟩
    · have retracts := servoRetract_moving (s := enter .unload (clearCauses (slotCleared s))) (.inr (.inr mode)) (fun out => nomatch status.symm.trans out)
      refine Eq.trans ?_ retracts
      unfold enterUnload
      simp only [show (enter .unload (clearCauses (slotCleared s))).svc.mode = .follow from mode]
    all_goals
      unfold enterUnload
      simp only [show (enter .unload (clearCauses (slotCleared s))).svc.mode = _ from mode]
      rfl
  rw [flushCompleteAct, if_pos flush, unloads, done_andThen]
  exact if_neg (by simp [noOrder])

section Elsewhere

variable {n : Nat} {l : List Signal} {s u : State}

theorem drain_slotFree_elsewhere (notReady : s.csq.lifecycle ≠ .ready) (notFlush : s.csq.lifecycle ≠ .flush) (rest : drain n l s = u) :
    drain (n + 1) (.slotFree :: l) s = u :=
  drain_of (m := []) (if_neg fun ⟨_, here⟩ => here.elim notReady notFlush) rest

theorem drain_slotIdle_elsewhere (notReady : s.csq.lifecycle ≠ .ready) (rest : drain n l s = u) : drain (n + 1) (.slotIdle :: l) s = u :=
  drain_of (m := []) (if_neg fun ⟨_, ready, _⟩ => notReady ready) rest

end Elsewhere

/-- A departure flush that is over retracts the heads, and its slot stays empty (R17). -/
theorem drain_flushComplete {n : Nat} {v : Svc} {s : State} (flush : s.csq.lifecycle = .flush) (noJob : s.txe.job = none)
    (noOrder : s.lif.executing = none)
    (heads : (OnTrack s ∧ v = retractedSvc s.svc) ∨ ((s.svc.mode = .lost ∨ s.svc.mode = .retract) ∧ v = s.svc)) :
    drain (n + 4) [.flushComplete, .slotFree, .slotIdle] s = unloaded v s :=
  drain_of (flushCompleteAct_unloads flush (by simp [jobWork, noJob]) noOrder heads)
    (drain_slotFree_elsewhere (by simp) (by simp) (drain_slotIdle_elsewhere (by simp) (drain_nil _ _)))

theorem flushOver_departure {j : Job} {s : State} (job : s.txe.job = some j) (kind : j.kind = .flush) (role : j.role = .departure) :
    flushOver s = ⟨closeJob s, [.flushComplete, .slotFree, .slotIdle]⟩ := by simp [flushOver, job, kind, role]

/-! ### The label's sectors -/

section Label

variable {o : SectorOp} {k : Nat} {j : Job} {s : State}

/-- The state in which a sector of the label has gone out to the medium. -/
abbrev labelSent (o : SectorOp) (k : Nat) (s : State) : State :=
  { s with txe := { s.txe with
      gate := false, sentField := some { cylinder := o.cylinder, head := o.head, sector := o.sector, data := s.txe.labelStore.getD k [] } } }

theorem writeFieldAct_label (op : s.txe.op = some o) (phase : o.phase = .transferring) (dir : o.dir = .write) (target : o.target = .label k) :
    writeFieldAct s = opEnded (decide (0 < o.retries)) (labelSent o k s) := by
  unfold writeFieldAct
  simp only [op, phase, dir, target]
  rfl

theorem nextSector_label {m : Nat} {todo : List Nat} {begun : Bool} (job : s.txe.job = some j) (flushing : j.flushing = none)
    (suspended : j.suspended = none) (work : j.work = .label (m :: todo) begun) : nextSector s = beginMapped (.label m) .write s := by
  rw [nextSector_resumes job flushing, resumeWork_on job suspended (by simp [work])]
  simp [workOn, jobWork_of job, work, labelWork]

/-- The last sector of the label ends the write (R119). -/
theorem opEnded_labelComplete {recovered begun : Bool} (op : s.txe.op = some o) (job : s.txe.job = some j) (kind : j.kind ≠ .labelRead)
    (flushing : j.flushing = none) (work : j.work = .label [k] begun) :
    opEnded recovered s = labelWritten (sectorOver recovered { j with work := .label [] begun } s) := by
  have advance : ∀ q, j.advance q = { j with work := .label [] begun } := fun q => by simp [Job.advance, flushing, work]
  have advanced : ∀ q, modJob (Job.advance q) ((clearOp s).modTxe fun t => { t with jobRecovered := t.jobRecovered || recovered }) =
      sectorOver recovered { j with work := .label [] begun } s := fun q => by
    simp [modJob, clearOp, mediaRelease, State.modTxe, State.modSgc, job, advance]
  have job' : ((clearOp s).modTxe fun t => { t with jobRecovered := t.jobRecovered || recovered }).txe.job = some j := job
  unfold opEnded
  simp only [op]
  split
  next read _ => exact absurd (congrArg Job.kind (Option.some.inj (job'.symm.trans read))) kind
  next => exact (if_pos (congrArg labelComplete (advanced _))).trans (congrArg labelWritten (advanced _))

/-- The label as the write leaves it (R120). -/
abbrev labelStored (s : State) : State :=
  { s with txe := { s.txe with labelStatus := .valid, record := some (recordOf (s.txe.labelStore.getD 0 [])), labelModified := false } }

end Label

/-- A WRITE's job with no window to flush waits for its frames, or for its end when written through (R149, R153). -/
theorem resumeWork_write {through : Bool} {j : Job} {s : State} (job : s.txe.job = some j) (suspended : j.suspended = none)
    (work : j.work = .write through []) : resumeWork s = if through then finishThrough s else done s := by
  rw [resumeWork_on job suspended (by simp [work])]
  simp [workOn, jobWork_of job, work, writeWork]

/-- One more block of the executing order is done. -/
abbrev oneMore (e : Executing) (l : Lif) : Lif := { l with executing := some { e with blocks := e.blocks + 1 } }

theorem countWritten_through {first count n : Nat} {queue : List Nat} {e : Executing} {j : Job} {s : State} (job : s.txe.job = some j)
    (order : j.kind = .order) (work : j.work = .write true queue) (executing : s.lif.executing = some e) (kind : e.order.kind = .write first count)
    (above : first ≤ n) (below : n < first + s.lif.expectedIndex) : countWritten n s = { s with lif := oneMore e s.lif } := by
  have range := transferRange_write executing kind
  simp [countWritten, orderInSlot_of job, order, jobWork_of job, work, range, above, below, setBlocks_of executing, blocksDone_of executing]

/-- Settles O24: for each job what its field's end writes down, and the boundary that follows. -/
theorem writeFieldsEnd : Obligations.WriteFieldsEnd := by
  intro o n i k m option first count todo begun j e s op phase dir
  refine ⟨fun target window hi last noEnd noYield => ⟨fun job => ?back, fun job executing kind above below => ?through⟩,
    fun target job notRead work flushing suspended idle noEnd noYield => ?sector, fun target job executing live kind waits wanted => ?commit,
    fun target job flush onTrack noOrder => ?departs⟩
  case back =>
    have counted : countWritten n (blockSent o i n s) = { blockSent o i n s with lif := s.lif } := by
      simp [countWritten, jobWork, job]
    have act := writeFieldAct_lastOfSegment op phase dir target window last noEnd noYield job rfl (by simp) (by simp) counted
    refine leads_of (next_of_done (act.trans (resumeWork_write (through := false) rfl rfl rfl))) ?_
    refine ⟨rfl, rfl, rfl, rfl, segmentAt_segmentFlushed_same hi last, fun k other => segmentAt_segmentFlushed_other other, rfl, rfl, rfl, ?_⟩
    and_intros <;> rfl
  case through =>
    have counted : countWritten n (blockSent o i n s) = { blockSent o i n s with lif := oneMore e s.lif } :=
      countWritten_through (by exact job) rfl rfl (by exact executing) kind above (by exact below)
    have act := writeFieldAct_lastOfSegment op phase dir target window last noEnd noYield job rfl (by simp) (by simp) counted
    have goesOn : writeFieldAct s = finishThrough (segmentFlushed o i n _ (oneMore e s.lif) s) :=
      act.trans (resumeWork_write (through := true) rfl rfl rfl)
    have range : transferRange (segmentFlushed o i n { orderJob (.write true []) with flushing := some i } (oneMore e s.lif) s) = (first, count) :=
      transferRange_write rfl kind
    refine ⟨fun more => ?_, fun all live waits wanted => ?_⟩
    · refine leads_of (next_of_done (goesOn.trans (if_neg (by rw [range]; exact Nat.not_le.mpr more)))) ?_
      refine ⟨rfl, rfl, rfl, rfl, rfl, rfl, segmentAt_segmentFlushed_same hi last, fun k other => segmentAt_segmentFlushed_other other, rfl, rfl, rfl, ?_⟩
      and_intros <;> rfl
    · refine leads_of (next_of_settle (settle_endOrderJob (goesOn.trans (if_pos (by rw [range]; exact all))) rfl live (by exact waits) ?_)) ?_
      · simp [stillWanted, wanted]
      · rw [startFlushTimer_eq]
        refine ⟨rfl, rfl, rfl, rfl, rfl, ?_, ?_, fun k other => ?_, rfl, rfl, ?_⟩
        · simp [kind, goodOutcome]
        · rw [segmentAt_map (s := segmentFlushed o i n _ (oneMore e s.lif) s) rfl rfl, segmentAt_segmentFlushed_same hi last]
        · rw [segmentAt_map (s := segmentFlushed o i n _ (oneMore e s.lif) s) rfl rfl, segmentAt_segmentFlushed_other other]
        · and_intros <;> rfl
  case sector =>
    have act := (writeFieldAct_label op phase dir target).trans (opEnded_of (s := labelSent o k s) op job notRead (by simp [Job.advance, flushing, work]))
    have advance : j.advance (opPosition o (labelSent o k s)) = { j with work := .label (m :: todo) begun } := by
      simp [Job.advance, flushing, work]
    rw [advance, boundary_free (by exact noEnd) (by exact noYield), nextSector_label (j := { j with work := .label (m :: todo) begun }) rfl flushing suspended rfl] at act
    obtain ⟨v, p, l, started, -, begins, ignored⟩ := (positioned_beginMapped (.label m) .write
      (s := sectorOver (decide (0 < o.retries)) { j with work := .label (m :: todo) begun } (labelSent o k s)) idle).begun
    refine leads_of (next_of_settle (settle_of (act.trans begins) (drain_ignored ignored))) ?_
    refine ⟨rfl, worksOn_fresh rfl started, rfl, rfl, rfl, rfl, ?_⟩
    and_intros <;> rfl
  case commit =>
    have act := (writeFieldAct_label op phase dir target).trans ((opEnded_labelComplete (s := labelSent o 0 s) op job (by simp) rfl rfl).trans
      ((flushOver_order (s := labelStored _) rfl rfl).trans (endOrderJobPlain_of (by exact executing))))
    refine leads_of (next_of_settle (settle_endOrderJob act (by exact executing) live (by exact waits) wanted)) ?_
    rw [startFlushTimer_eq]
    refine ⟨rfl, rfl, rfl, rfl, rfl, rfl, rfl, rfl, rfl, rfl, ?_, held_map held_freed, rfl, ?_, rfl⟩
    · simp [kind, OrderKind.detail, goodOutcome]
    · and_intros <;> rfl
  case departs =>
    have act := (writeFieldAct_label op phase dir target).trans ((opEnded_labelComplete (s := labelSent o 0 s) op job (by simp) rfl rfl).trans
      (flushOver_departure (s := labelStored _) rfl rfl rfl))
    refine leads_of (next_of_settle (settle_of act (drain_flushComplete (by exact flush) rfl (by exact noOrder) (.inl ⟨by exact onTrack, rfl⟩)))) ?_
    refine ⟨rfl, rfl, rfl, rfl, rfl, rfl, rfl, rfl, rfl, rfl, rfl, rfl, (held_map held_freed).trans (held_map held_freed), rfl, rfl⟩

end Sys2Proof.Machine

/-! Departures from READY by standby and by the eject button, whatever the slot holds (R14 to R17, R124, R155). -/

namespace Sys2Proof.Machine

set_option Elab.async false

/-! ### The departure flush asked for -/

theorem dropPassOrder_of_none {s : State} (noPass : passTag s = none) : dropPassOrder s = done s := by simp [dropPassOrder, noPass]

/-- A departure asks for the slot in a state that already is in FLUSH. -/
def departureAct (s : State) : Act := (requestDeparture s).andThen dropPassOrder

/-- A READ_AHEAD between two sectors yields at once (R124). -/
theorem requestYield_readAhead {j : Job} {s : State} (job : s.txe.job = some j) (kind : j.kind = .readAhead) (between : atBoundary s = true) :
    requestYield s = ⟨closeJob { s with txe := { s.txe with yieldPending := true } }, [.slotFree, .slotIdle]⟩ := by
  have yields : slotYields s = true := by simp [slotYields, job, Job.yields, kind]
  have noOrder : orderInSlot s = false := by simp [orderInSlot_of job, kind]
  have ends : endBackground { s with txe := { s.txe with yieldPending := true } } =
      ⟨closeJob { s with txe := { s.txe with yieldPending := true } }, [.slotFree, .slotIdle]⟩ := by
    simp [endBackground, job, kind]
  refine (if_pos yields).trans ((if_pos (by exact between)).trans ((if_neg ?_).trans ((if_pos ⟨rfl, by exact yields⟩).trans ends)))
  exact fun ⟨_, order⟩ => nomatch noOrder.symm.trans order

theorem slotFreeAct_departure {s : State} (noJob : s.txe.job = none) (flush : s.csq.lifecycle = .flush) (order : s.txe.orderWaits = false)
    (departure : s.txe.departureWaits = true) : slotFreeAct s = takeDeparture s := by simp [slotFreeAct, noJob, flush, order, departure]

theorem requestBackground_elsewhere {s : State} (elsewhere : s.csq.lifecycle ≠ .ready) : requestBackground s = done s := by
  simp [requestBackground, elsewhere]

section Departure

variable {j : Job} {n : Nat} {s : State} (noPass : passTag s = none)
include noPass

theorem departureAct_order (job : s.txe.job = some j) (order : j.kind = .order) :
    departureAct s = done { s with txe := { s.txe with departureWaits := true } } := by
  have waits : requestDeparture s = done { s with txe := { s.txe with departureWaits := true } } := by simp [requestDeparture, job, order, State.modTxe]
  rw [departureAct, waits, done_andThen]
  exact dropPassOrder_of_none noPass

theorem departureAct_background (job : s.txe.job = some j) (kind : j.kind = .flush) (role : j.role = .background) :
    departureAct s = done { s with txe := { s.txe with job := some { j with role := .departure }, yieldPending := false } } := by
  have takes : requestDeparture s = done { s with txe := { s.txe with job := some { j with role := .departure }, yieldPending := false } } := by
    simp [requestDeparture, job, kind, role, modJob, State.modTxe]
  rw [departureAct, takes, done_andThen]
  exact dropPassOrder_of_none noPass

theorem departureAct_readAhead (job : s.txe.job = some j) (kind : j.kind = .readAhead) (field : atBoundary s = false) :
    departureAct s = done { s with txe := { s.txe with departureWaits := true, yieldPending := true } } := by
  have asks : requestDeparture s = requestYield (s.modTxe fun t => { t with departureWaits := true }) := by simp [requestDeparture, job, kind]
  have yields : slotYields (s.modTxe fun t => { t with departureWaits := true }) = true := by simp [slotYields, job, Job.yields, kind]
  rw [departureAct, asks, requestYield, if_pos yields, boundary, if_neg (by simpa [atBoundary] using field)]
  exact dropPassOrder_of_none noPass

/-- The slot taken by the departure flush. -/
abbrev inDeparture (s : State) : State := { s with txe := { s.txe with job := some (flushJob .departure), departureWaits := false } }

theorem departureAct_clean (noJob : s.txe.job = none) (clean : dirtyCount s = 0) (label : s.txe.labelModified = false) :
    departureAct s = ⟨closeJob (withSegments (s.sgc.segments.map flushFreed) (inDeparture s)), [.flushComplete, .slotFree, .slotIdle]⟩ := by
  have takes : requestDeparture s = flushWork (inDeparture s) := by simp only [requestDeparture, noJob]; rfl
  have ends := (flushWork_clean (s := inDeparture s) clean (.inl label)).trans (flushOver_departure rfl rfl rfl)
  rw [departureAct]
  exact andThen_of (takes.trans ends) (dropPassOrder_of_none noPass)

theorem departureAct_dirty (noJob : s.txe.job = none) (sound : CacheSound s) (least : LeastDirty n s) (idle : s.svc.cal.stage = .idle) :
    ∃ segments v p, segments.map Segment.held = heldBlocks s ∧ p ≠ .transferring ∧
      settle (departureAct s) =
        finish (opBegun (freshOp (.block n) .write (mapBlock s.txe n)) p v (withSegments segments (inDeparture s))) := by
  have takes : requestDeparture s = flushWork (inDeparture s) := by simp only [requestDeparture, noJob]; rfl
  obtain ⟨segments, v, p, l, same, phase, -, begun, ignored⟩ := flushWork_begun (s := inDeparture s) sound least idle
  refine ⟨segments, v, p, same, phase, settle_of (andThen_of (takes.trans begun) (dropPassOrder_of_none noPass)) ?_⟩
  rw [List.append_nil]
  exact drain_ignored ignored

/-- A READ_AHEAD between two sectors ends at once, and the departure flush takes the slot (R124). -/
theorem departureAct_yields (flush : s.csq.lifecycle = .flush) (job : s.txe.job = some j) (kind : j.kind = .readAhead) (between : atBoundary s = true)
    (order : s.txe.orderWaits = false) (sound : CacheSound s) (least : LeastDirty n s) (idle : s.svc.cal.stage = .idle) :
    ∃ segments v p, segments.map Segment.held = heldBlocks s ∧ p ≠ .transferring ∧
      settle (departureAct s) = finish (opBegun (freshOp (.block n) .write (mapBlock s.txe n)) p v
        (withSegments segments (inDeparture (closeJob s)))) := by
  have asks : requestDeparture s = requestYield (s.modTxe fun t => { t with departureWaits := true }) := by simp [requestDeparture, job, kind]
  have ends : requestYield (s.modTxe fun t => { t with departureWaits := true }) =
      ⟨closeJob (s.modTxe fun t => { t with departureWaits := true, yieldPending := true }), [.slotFree, .slotIdle]⟩ := by
    exact requestYield_readAhead (by exact job) kind between
  have freedDirty : dirtyBlocks (closeJob s) = dirtyBlocks s := dirtyBlocks_of_held (by exact held_map held_freed)
  obtain ⟨segments, v, p, l, same, phase, -, begun, ignored⟩ := flushWork_begun (n := n)
    (s := inDeparture (closeJob (s.modTxe fun t => { t with departureWaits := true, yieldPending := true }))) sound.then_releaseAll
    (by rw [LeastDirty]; exact freedDirty ▸ least) idle
  have frees := slotFreeAct_departure (s := closeJob (s.modTxe fun t => { t with departureWaits := true, yieldPending := true })) rfl flush order rfl
  refine ⟨segments, v, p, same.trans (held_map held_freed), phase,
    settle_of (andThen_of (asks.trans ends) (dropPassOrder_of_none noPass)) (drain_of (frees.trans begun) (drain_ignored fun g mem => ?_))⟩
  rcases List.mem_append.mp mem with mine | later
  · exact ignored g mine
  · obtain rfl := List.mem_singleton.mp later
    exact requestBackground_elsewhere fun ready => nomatch flush.symm.trans ready

end Departure

/-! ### Standby -/

/-- The state in which a departure from READY asks for the slot, with the sequencer `q` at its start (R14). -/
abbrev departed (c : Cause) (q : Csq) (s : State) : State :=
  { s with csq := departedCsq (noCauses.add c) (reasonAfter c q.stopReason) q, sgc := { s.sgc with flushTimer := none } }

theorem standbyAct_departs {s : State} (timer : s.csq.standby.isSome = true) (ready : s.csq.lifecycle = .ready) :
    standbyAct s = departureAct (departed .standby s.csq s) := if_pos ⟨timer, ready⟩

/-- Settles O10. -/
theorem standbyLeavesReady : Obligations.StandbyLeavesReady := by
  intro j n s timer ready noPass
  have act := standbyAct_departs timer ready
  have noPass' : passTag (departed .standby s.csq s) = none := noPass
  have unloads : ∀ v, s.txe.job = none → dirtyCount s = 0 → s.txe.labelModified = false → s.lif.executing = none →
      ((OnTrack s ∧ v = retractedSvc s.svc) ∨ ((s.svc.mode = .lost ∨ s.svc.mode = .retract) ∧ v = s.svc)) →
      settle (standbyAct s) = finish (unloaded v (closeJob (withSegments (s.sgc.segments.map flushFreed) (inDeparture (departed .standby s.csq s))))) :=
    fun v noJob clean label noOrder heads => settle_of (act.trans (departureAct_clean noPass' noJob clean label))
      (drain_flushComplete rfl rfl (by exact noOrder) (by exact heads))
  have held := (held_map (l := (s.sgc.segments.map flushFreed).map freed) held_freed).trans ((held_map held_freed).trans (held_map held_flushFreed))
  refine ⟨fun job order => ?order, fun noJob clean label onTrack noOrder => ?ends, fun noJob clean label lost noOrder => ?lost,
    fun free sound least idle => ?dirty, fun job kind role => ?background, fun job kind field => ?readAhead⟩
  case order =>
    refine leads_of (next_of_done (act.trans (departureAct_order noPass' job order))) ?_
    refine ⟨rfl, rfl, job, rfl, rfl, ?_⟩
    and_intros <;> rfl
  case ends =>
    refine leads_of (next_of_settle (unloads _ noJob clean label noOrder (.inl ⟨onTrack, rfl⟩))) ?_
    refine ⟨rfl, rfl, rfl, rfl, rfl, rfl, rfl, rfl, rfl, ?_, ?_, held, rfl, rfl⟩ <;> and_intros <;> rfl
  case lost =>
    refine leads_of (next_of_settle (unloads _ noJob clean label noOrder (.inr ⟨lost, rfl⟩))) ?_
    refine ⟨rfl, rfl, rfl, rfl, rfl, rfl, rfl, rfl, rfl, ?_, ?_, held, rfl, rfl⟩ <;> and_intros <;> rfl
  case dirty =>
    rcases free with noJob | ⟨job, kind, between, order⟩
    · obtain ⟨segments, v, p, same, phase, settled⟩ := departureAct_dirty (s := departed .standby s.csq s) noPass' noJob sound least idle
      refine leads_of (next_of_settle ((congrArg settle act).trans settled)) ?_
      refine ⟨rfl, rfl, rfl, worksOn_fresh rfl phase, rfl, rfl, rfl, rfl, ?_, ?_, same, rfl, rfl⟩ <;> and_intros <;> rfl
    · obtain ⟨segments, v, p, same, phase, settled⟩ :=
        departureAct_yields (s := departed .standby s.csq s) noPass' rfl job kind between order sound least idle
      refine leads_of (next_of_settle ((congrArg settle act).trans settled)) ?_
      refine ⟨rfl, rfl, rfl, worksOn_fresh rfl phase, rfl, rfl, rfl, rfl, ?_, ?_, same, rfl, rfl⟩ <;> and_intros <;> rfl
  case background =>
    refine leads_of (next_of_done (act.trans (departureAct_background noPass' job kind role))) ?_
    refine ⟨rfl, rfl, rfl, rfl, rfl, ?_⟩
    and_intros <;> rfl
  case readAhead =>
    refine leads_of (next_of_done (act.trans (departureAct_readAhead noPass' job kind field))) ?_
    refine ⟨rfl, job, rfl, rfl, rfl, rfl, ?_⟩
    and_intros <;> rfl

end Sys2Proof.Machine

/-! The eject button by lifecycle state (R6). -/

namespace Sys2Proof.Machine

set_option Elab.async false

section Button

variable {s : State}

/-- The sequencer with its button taken. -/
abbrev taken (s : State) : State := { s with csq := { s.csq with buttonReady := false } }

theorem buttonAct_prevented (pressed : s.csq.buttonReady = true) (prevented : s.csq.removalPrevented = true) (held : s.csq.lifecycle ≠ .empty) :
    buttonAct s = done (latch .ejectRequest (taken s)) :=
  (if_pos pressed).trans (if_pos ⟨prevented, held⟩)

theorem buttonAct_allowed (pressed : s.csq.buttonReady = true) (allowed : s.csq.removalPrevented = false ∨ s.csq.lifecycle = .empty) :
    buttonAct s = pressAct (taken s) :=
  (if_pos pressed).trans (if_neg fun ⟨prevented, held⟩ => allowed.elim (fun off => nomatch off.symm.trans prevented) held)

theorem askEject_button (s : State) : askEject true s = { s with csq := { s.csq with ejectPending := true, ejectByButton := true } } := by
  simp [askEject, State.modCsq]

theorem asks_button (s : State) : (if Cause.button.ejects then askEject (Cause.button == Cause.button) s else s) =
    { s with csq := { s.csq with ejectPending := true, ejectByButton := true } } := (if_pos rfl).trans (askEject_button s)

theorem pressAct_nothing (nothing : s.csq.lifecycle = .empty ∨ s.csq.lifecycle = .seating) : pressAct s = done s := by
  rcases nothing with l | l <;> simp [pressAct, l]

theorem pressAct_pends (pends : s.csq.lifecycle = .spinUp ∨ s.csq.lifecycle = .headLoad ∨ s.csq.lifecycle = .labelRead ∨
    s.csq.lifecycle = .calibrate ∨ s.csq.lifecycle = .unload ∨ s.csq.lifecycle = .spinDown) : pressAct s = done (askEject true s) := by
  rcases pends with l | l | l | l | l | l <;> simp [pressAct, l]

theorem pressAct_stopped (stopped : s.csq.lifecycle = .stopped) (noOrder : s.lif.executing = none) :
    pressAct s = beginEjection { s with csq := { s.csq with ejectPending := true, ejectByButton := true, spinUpRequest := false } } := by
  have asks : pressAct s = (endAwaited .notReady ((askEject true s).modCsq fun c => { c with spinUpRequest := false })).andThen beginEjection := by
    simp [pressAct, stopped]
  rw [asks, askEject_button, endAwaited_of_none (by exact noOrder), done_andThen]
  rfl

theorem pressAct_ready (ready : s.csq.lifecycle = .ready) :
    pressAct s = departureAct (departed .button { s.csq with ejectPending := true, ejectByButton := true } s) := by
  have departs : pressAct s = depart .button s := by simp [pressAct, ready]
  rw [departs, depart, asks_button]
  rfl

theorem pressAct_flush (flush : s.csq.lifecycle = .flush) : pressAct s = done { s with csq := { s.csq with
    ejectPending := true, ejectByButton := true, causes := { s.csq.causes with button := true },
    stopReason := orderedReason s.csq.stopReason } } := by
  have joins : pressAct s = done (joinDeparture .button s) := by simp [pressAct, flush]
  rw [joins, joinDeparture, asks_button]
  rfl

theorem pressAct_eject (eject : s.csq.lifecycle = .eject) : pressAct s = done (if s.csq.oneShot.isSome then pulseRequest s else s) := by
  simp [pressAct, eject]

theorem pressAct_jammed (jammed : s.csq.lifecycle = .jammed) : pressAct s = retryRound s := by simp [pressAct, jammed]

end Button

/-- Settles O8: one lemma per lifecycle state says what a press does there. -/
theorem buttonActsByState : Obligations.ButtonActsByState := by
  intro j n s
  refine ⟨fun pressed prevented held => ?prevented, fun pressed nothing => ?nothing, fun pressed allowed pends => ?pends,
    fun pressed allowed stopped noOrder => ⟨fun clean label parked confirmed present => ?ejects, fun kept => ?refused⟩,
    fun pressed allowed ready noPass => ?ready, fun pressed allowed flush => ?flush,
    fun pressed allowed eject => ⟨fun pulse free => ?restarts, fun check => ?waits⟩, fun pressed allowed jammed present => ?retries,
    fun unready => ?unready, rfl⟩
  case prevented => exact next_of_done (buttonAct_prevented pressed prevented held)
  case nothing =>
    refine next_of_done ((buttonAct_allowed pressed ?_).trans (pressAct_nothing (by exact nothing.imp_right And.left)))
    exact nothing.elim .inr fun ⟨_, allowed⟩ => .inl allowed
  case pends => exact next_of_done ((buttonAct_allowed pressed (.inl allowed)).trans ((pressAct_pends (by exact pends)).trans (by rw [askEject_button])))
  case ejects =>
    have act := (buttonAct_allowed pressed (.inl allowed)).trans ((pressAct_stopped (by exact stopped) (by exact noOrder)).trans
      ((beginEjection_clean (by exact clean) (by exact label) (by exact parked) (by exact confirmed) (by simp [startAwaited, noOrder])
        (by simp [stopExecuting, liveKind, noOrder])).trans (senseGone_present (by exact present))))
    exact next_of_done act
  case refused =>
    have refuses : ∀ t : State, (dirtyCount t ≠ 0 ∨ t.txe.labelModified = true) → t.lif.executing = none → beginEjection t = done (ejectRefused t) :=
      fun t kept none => (if_pos kept).trans ((refuseEjection_eq t).trans ((if_neg (by simp [ejectExecuting, liveKind, none])).trans
        (if_neg (by simp [stopExecuting, liveKind, none]))))
    exact next_of_done ((buttonAct_allowed pressed (.inl allowed)).trans ((pressAct_stopped (by exact stopped) (by exact noOrder)).trans
      (refuses _ (by exact kept) (by exact noOrder))))
  case ready =>
    have act := (buttonAct_allowed pressed (.inl allowed)).trans (pressAct_ready (by exact ready))
    have noPass' : passTag (departed .button (pressedCsq s.csq) s) = none := noPass
    have held := (held_map (l := (s.sgc.segments.map flushFreed).map freed) held_freed).trans ((held_map held_freed).trans (held_map held_flushFreed))
    refine ⟨fun job order => ?order, fun job kind role => ?background, fun noJob sound least idle => ?dirty,
      fun noJob clean label onTrack noOrder => ?clean⟩
    case order =>
      refine leads_of (next_of_done (act.trans (departureAct_order noPass' job order))) ?_
      refine ⟨rfl, rfl, job, rfl, ?_⟩
      and_intros <;> rfl
    case background =>
      refine leads_of (next_of_done (act.trans (departureAct_background noPass' job kind role))) ?_
      refine ⟨rfl, rfl, rfl, rfl, ?_⟩
      and_intros <;> rfl
    case dirty =>
      obtain ⟨segments, v, p, same, phase, settled⟩ := departureAct_dirty (s := departed .button (pressedCsq s.csq) s) noPass' noJob sound least idle
      refine leads_of (next_of_settle ((congrArg settle act).trans settled)) ?_
      refine ⟨rfl, rfl, worksOn_fresh rfl phase, same, rfl, rfl, rfl, ?_, ?_, rfl⟩ <;> and_intros <;> rfl
    case clean =>
      refine leads_of (next_of_settle (settle_of (act.trans (departureAct_clean noPass' noJob clean label))
        (drain_flushComplete rfl rfl (by exact noOrder) (.inl ⟨by exact onTrack, rfl⟩)))) ?_
      refine ⟨rfl, rfl, rfl, rfl, rfl, ?_, ?_, held, rfl, rfl⟩ <;> and_intros <;> rfl
  case flush => exact next_of_done ((buttonAct_allowed pressed (.inl allowed)).trans (pressAct_flush (by exact flush)))
  case restarts =>
    have pulses : (if (taken s).csq.oneShot.isSome then pulseRequest (taken s) else taken s) = pulseRequest (taken s) := if_pos pulse
    have width : pulseRequest (taken s) = { s with csq := { s.csq with
        buttonReady := false, oneShot := some (if s.lif.settings.ejectLong then 160000 else 40000) } } := by
      simp [pulseRequest, State.modCsq, free, pulseWidth]
    exact next_of_done ((buttonAct_allowed pressed (.inl allowed)).trans ((pressAct_eject (by exact eject)).trans (by rw [pulses, width])))
  case waits =>
    have rests : (if (taken s).csq.oneShot.isSome then pulseRequest (taken s) else taken s) = taken s := if_neg (by simp [check])
    exact next_of_done ((buttonAct_allowed pressed (.inl allowed)).trans ((pressAct_eject (by exact eject)).trans (congrArg done rests)))
  case retries =>
    exact next_of_done ((buttonAct_allowed pressed (.inl allowed)).trans ((pressAct_jammed (by exact jammed)).trans
      (senseGone_present (s := startRound .retry (taken s)) (by exact present))))
  case unready => exact next_of_done (if_neg (by simp [unready]))

end Sys2Proof.Machine

/-! The emergency path (R22, R23). -/

namespace Sys2Proof.Machine

set_option Elab.async false

/-- The heads retracting on request. -/
def Retracting (v : Svc) : Prop :=
  v.mode = .retract ∧ v.command = -60 ∧ v.retractTimer = some 50000 ∧ v.retractCause = .requested ∧ v.writePermission = false

/-- Messages that find no sector operation and no pass. -/
theorem ignored_seekErrorTo {g : Signal} {r : Requester} {s : State} (mem : g ∈ seekErrorTo r) (noOp : s.txe.op = none)
    (idle : s.svc.cal.stage = .idle) : handle g s = done s := by
  obtain ⟨rfl, rfl | rfl⟩ := mem_seekErrorTo mem
  · exact (handle_seekError_transfer s).trans (by simp [transferSeekError, noOp])
  · exact passSeekError_idle idle

theorem drain_seekErrorTo {n : Nat} {r : Requester} {l : List Signal} {s u : State} (noOp : s.txe.op = none) (idle : s.svc.cal.stage = .idle)
    (rest : ∀ k ≤ 1, drain (k + n) l s = u) : drain (n + 1) (seekErrorTo r ++ l) s = u := by
  have ignored : ∀ g ∈ seekErrorTo r, handle g s = done s := fun g mem => ignored_seekErrorTo mem noOp idle
  unfold seekErrorTo at ignored ⊢
  split
  next asked => exact drain_of (ignored _ (by simp [asked])) (by simpa using rest 0 (Nat.zero_le 1))
  next => exact Nat.add_comm 1 n ▸ rest 1 le_rfl

/-- An emergency retraction of moving heads, their seek cut off with it. -/
theorem servoRetract_retracts {s : State} (mode : s.svc.mode = .seek ∨ s.svc.mode = .settle ∨ s.svc.mode = .follow) :
    ∃ v r, servoRetract s = ⟨{ s with svc := v }, seekErrorTo r⟩ ∧ Retracting v ∧ v.cal = s.svc.cal := by
  have cuts : servoRetract s = cutOffSeek (s.modSvc (Svc.retractTo .retract .requested)) := by
    rcases mode with mode | mode | mode <;> simp [servoRetract, mode]
  rw [cuts]
  unfold cutOffSeek
  split
  · exact ⟨_, _, rfl, ⟨rfl, rfl, rfl, rfl, rfl⟩, rfl⟩
  · exact ⟨_, .nobody, rfl, ⟨rfl, rfl, rfl, rfl, rfl⟩, rfl⟩

/-- The sequencer on the emergency path (R23). -/
abbrev emergencyCsq (c : Csq) : Csq :=
  { stillCsq .unload c with
    ejectPending := false, ejectByButton := false, faultHold := true, stopReason := .fault, causes := noCauses, carried := none }

/-- The state of the emergency path before its order has ended. -/
abbrev emergencyState (v : Svc) (s : State) : State :=
  { slotCleared s with csq := emergencyCsq s.csq, svc := v, sgc := stillSgc (closedSgc s.sgc) }

theorem endByEmergency_live {e : Executing} {s : State} (executing : s.lif.executing = some e) (live : e.remnant = false)
    (unproceeded : e.stage = .waitPass → s.svc.cal.passOrder = none) :
    endByEmergency s = send .orderEnded (ended
      { tag := e.order.tag, kind := e.order.kind, outcome := .notReady, blocks := e.blocks, detail := e.order.kind.detail,
        lifecycle := s.csq.lifecycle }
      { s with svc := { s.svc with cal := { s.svc.cal with passOrder := none } } }) := by
  have plain : ¬ (s.svc.cal.passOrder.isSome = true ∧ (passTag s).isSome = true) := by
    rintro ⟨order, tag⟩
    by_cases waits : e.stage = .waitPass
    · simp [unproceeded waits] at order
    · simp [passTag, executing, waits] at tag
  exact (if_neg plain).trans (endPlain_live (by exact executing) live)

/-- The emergency path with an order executing: the retraction, the report, and the slot given up (R23). -/
theorem emergency_live {e : Executing} {s : State} (mode : s.svc.mode = .seek ∨ s.svc.mode = .settle ∨ s.svc.mode = .follow)
    (idle : s.svc.cal.stage = .idle) (executing : s.lif.executing = some e) (live : e.remnant = false)
    (unproceeded : e.stage = .waitPass → s.svc.cal.passOrder = none) (noLabel : ∀ todo begun, jobWork s ≠ some (.label todo begun)) :
    ∃ v r, Retracting v ∧ v.cal.stage = .idle ∧
      emergency s = ⟨ended
        { tag := e.order.tag, kind := e.order.kind, outcome := .notReady, blocks := e.blocks, detail := e.order.kind.detail, lifecycle := .unload }
        (emergencyState v s), seekErrorTo r ++ [.orderEnded, .dispatch]⟩ := by
  have interrupts : passInterrupt (slotCleared s) = slotCleared s := if_pos idle
  obtain ⟨v, r, retracts, retracting, cal⟩ := servoRetract_retracts (s := slotCleared s) mode
  have first : servoRetract (passInterrupt (endJobNow s)) = ⟨{ slotCleared s with svc := v }, seekErrorTo r⟩ := by
    rw [endJobNow_eq noLabel, interrupts, retracts]
  have ends := endByEmergency_live (e := e) (s := emergencyState v s) executing live (by rw [cal]; exact unproceeded)
  exact ⟨{ v with cal := { v.cal with passOrder := none } }, r, retracting, (congrArg Calibration.stage cal).trans idle,
    andThen_of first (andThen_of ends rfl)⟩

/-- The state in which the grace has run out (R22). -/
abbrev graceOver (s : State) : State :=
  { s with csq := { s.csq with grace := none }, lif := { s.lif with notices := s.lif.notices ||| 64#16 } }

theorem graceAct_emergency {s : State} (grace : s.csq.grace.isSome = true) (active : s.csq.lifecycle = .ready ∨ s.csq.lifecycle = .flush) :
    graceAct s = emergency (graceOver s) := by
  rw [graceAct, if_pos grace]
  split
  · rfl
  · rfl
  · rfl
  next notReady notFlush _ => exact absurd active (by tauto)

/-- Settles O11. -/
theorem graceExpiryTakesTheEmergencyPath : Obligations.GraceExpiryTakesTheEmergencyPath := by
  intro e s grace active mode idle executing live unproceeded queue noLabel
  obtain ⟨v, r, ⟨retract, command, timer, cause, permission⟩, stage, path⟩ :=
    emergency_live (s := graceOver s) mode idle executing live unproceeded noLabel
  refine leads_of (next_of_settle (settle_of ((graceAct_emergency grace active).trans path) (drain_seekErrorTo rfl stage fun k _ =>
    drain_orderEnded (n := k + 197) queue (drain_dispatch ((startFlushTimer_eq _).symm ▸ queue) (drain_nil _ _))))) ?_
  rw [startFlushTimer_eq]
  refine ⟨rfl, retract, command, timer, cause, permission, rfl, rfl, rfl, held_map held_freed, rfl, rfl, rfl, rfl, rfl, rfl, rfl⟩

end Sys2Proof.Machine

/-! Sector operations at the medium: the mark, the retry, the field read, and the buffer's parity (R129 to R137, R144 to R148, R157). -/

namespace Sys2Proof.Machine

set_option Elab.async false

/-! ### One block's place in a segment -/

/-- A block is in neither set. -/
def dropped (n : Nat) (g : Segment) : Segment := { g with valid := eraseNat (n % 16) g.valid, dirty := eraseNat (n % 16) g.dirty }

/-- A block read from the medium is valid. -/
def validated (n : Nat) (g : Segment) : Segment := { g with valid := insertNat (n % 16) g.valid }

theorem dropBlock_eq (i n : Nat) (s : State) :
    dropBlock i n s = { s with sgc := { s.sgc with
      segments := s.sgc.segments.modify i (dropped n), flushWanted := stillWanted (s.sgc.segments.modify i (dropped n)) s.sgc.flushWanted } } := by
  rw [dropBlock, dropWantedIfClean_eq]
  rfl

/-- The state after the loss of a block (R157). -/
abbrev blockLost (i n : Nat) (s : State) : State :=
  { s with
    sgc := { s.sgc with
      segments := s.sgc.segments.modify i (dropped n), flushWanted := stillWanted (s.sgc.segments.modify i (dropped n)) s.sgc.flushWanted,
      lostBlocks := min 65535 (s.sgc.lostBlocks + 1), lastLost := some n }
    lif := { s.lif with notices := s.lif.notices ||| 1024#16 } }

theorem loseBlock_eq (i n : Nat) (s : State) : loseBlock i n s = blockLost i n s := by
  rw [loseBlock, dropBlock_eq]
  simp [State.modSgc, latch, State.modLif, satAdd_eq, Notice.bit]

/-- A search for a window looks at the base and at whether a window is held. -/
theorem findWindow_of_keys {b : Nat} {s t : State}
    (same : t.sgc.segments.map (fun g => (g.base, g.holdsWindow)) = s.sgc.segments.map fun g => (g.base, g.holdsWindow)) :
    findWindow b t = findWindow b s := by
  have keyed : ∀ u : State, findWindow b u = (u.sgc.segments.map fun g => (g.base, g.holdsWindow)).findIdx? fun k => k.1 == b && k.2 := fun u => by
    rw [List.findIdx?_map]
    rfl
  rw [keyed, keyed, same]

theorem findWindow_modify {b i : Nat} {f : Segment → Segment} {s t : State} (segments : t.sgc.segments = s.sgc.segments.modify i f)
    (base : (f (segmentAt s i)).base = (segmentAt s i).base) (held : (f (segmentAt s i)).holdsWindow = (segmentAt s i).holdsWindow) :
    findWindow b t = findWindow b s := by
  refine findWindow_of_keys (List.ext_getElem (by simp [segments]) fun k _ hk => ?_)
  have hk : k < s.sgc.segments.length := by simpa using hk
  by_cases here : i = k
  · subst here
    rw [segmentAt_eq_getElem hk] at base held
    simp [segments, base, held]
  · simp [segments, here]

/-! ### A retry on the same offset -/

theorem countRetry_again {o : SectorOp} {ph : OpPhase} {s : State} (op : s.txe.op = some o) (below : o.retries < s.lif.settings.retryLimit)
    (same : ladderOffset (o.retries + 1) = ladderOffset o.retries) (noEnd : s.txe.endPending = .no) (noYield : s.txe.yieldPending = false) :
    countRetry false ph s = done { s with txe := { s.txe with
      op := some { o with retries := o.retries + 1, phase := ph }, retryCounter := min 65535 (s.txe.retryCounter + 1) } } := by
  have again : ¬ (false = true ∨ ladderOffset (o.retries + 1) ≠ ladderOffset o.retries) := by simp [same]
  unfold countRetry
  simp only [op, below, if_true, again, if_false, done_andThen, satAdd_eq]
  exact boundary_free (by exact noEnd) (by exact noYield)

/-! ### The sector mark -/

section Mark

variable {h : SectorHeader} {o : SectorOp} {s : State} (op : s.txe.op = some o)
include op

theorem sectorMarkAct_unlocked (unlocked : s.spc.speedLock = false) : sectorMarkAct h s = done s := by
  simp [sectorMarkAct, op, unlocked]

variable (looking : o.phase = .looking) (locked : s.spc.speedLock = true) (follow : s.svc.mode = .follow)
include looking locked follow

theorem sectorMarkAct_failed (bad : h.checkGood = false) : sectorMarkAct h s = countRetry false .looking s := by
  simp [sectorMarkAct, op, looking, locked, follow, bad]

theorem sectorMarkAct_passes (good : h.checkGood = true) (cylinder : h.cylinder = o.cylinder) (head : h.head = o.head) (other : h.sector ≠ o.sector) :
    sectorMarkAct h s = done s := by
  simp [sectorMarkAct, op, looking, locked, follow, good, cylinder, head, other]

theorem sectorMarkAct_reads (wanted : h = ⟨o.cylinder, o.head, o.sector, true⟩) (dir : o.dir = .read) : sectorMarkAct h s = readAtMark o s := by
  subst wanted
  simp [sectorMarkAct, op, looking, locked, follow, dir]

theorem sectorMarkAct_writes (wanted : h = ⟨o.cylinder, o.head, o.sector, true⟩) (dir : o.dir = .write) : sectorMarkAct h s = writeAtMark o s := by
  subst wanted
  simp [sectorMarkAct, op, looking, locked, follow, dir]

end Mark

/-- The buffer port taken by the media side (R134). -/
abbrev portTaken (g : Sgc) : Sgc := { g with mediaPort := true, linkPort := if g.linkPort = .active then .suspended else g.linkPort }

theorem writeAtMark_opens {o : SectorOp} {s : State} (allowed : gateAllowed s = true) : writeAtMark o s = done { s with
    txe := { s.txe with op := some { o with phase := .transferring }, gate := true, job := s.txe.job.map Job.beginLabel }
    sgc := portTaken s.sgc } := by
  have conditions := allowed
  simp only [gateAllowed, Bool.and_eq_true, Bool.not_eq_true'] at conditions
  obtain ⟨⟨⟨-, writable⟩, noHold⟩, -⟩ := conditions
  have opens : writeAtMark o s = done (openGate o s) := by simp [writeAtMark, noHold, writable, allowed]
  exact opens

/-- Settles O22. -/
theorem sectorMarksAreTaken : Obligations.SectorMarksAreTaken := by
  intro h o n i s op looking target
  refine ⟨fun unlocked => next_of_done (sectorMarkAct_unlocked op unlocked),
    fun locked follow good cylinder head other => next_of_done (sectorMarkAct_passes op looking locked follow good cylinder head other),
    fun locked follow bad below same noEnd noYield => ?retries, fun locked follow wanted dir window missing => ?reads,
    fun locked follow wanted dir hold timer => ?holds, fun allowed wanted dir => ?writes⟩
  case retries =>
    have act := (sectorMarkAct_failed op looking locked follow bad).trans (countRetry_again op below same noEnd noYield)
    exact next_of_done (by rw [act, looking])
  case reads =>
    have field : readAtMark o s = done (mediaTake (setOp { o with phase := .transferring } s)) := by
      simp [readAtMark, target, missing, placeAtMark, window]
    exact next_of_done ((sectorMarkAct_reads op looking locked follow wanted dir).trans field)
  case holds =>
    have waits : writeAtMark o s = done { s with txe := { s.txe with holdTimer := some 10000000 } } := by
      simp [writeAtMark, hold, timer, State.modTxe, Config.holdWaitTime]
    exact next_of_done ((sectorMarkAct_writes op looking locked follow wanted dir).trans waits)
  case writes =>
    have conditions := allowed
    simp only [gateAllowed, Bool.and_eq_true, beq_iff_eq] at conditions
    obtain ⟨⟨⟨⟨⟨⟨follow, -⟩, -⟩, locked⟩, -⟩, -⟩, -⟩ := conditions
    have act := (sectorMarkAct_writes op looking locked follow wanted dir).trans (writeAtMark_opens allowed)
    refine leads_of (next_of_done act) ⟨(Bool.true_and _).trans allowed, rfl, rfl, ?_⟩
    and_intros <;> rfl

end Sys2Proof.Machine

/-! READ at its blocks: the service of the next block, the end of its field, and the parity of the buffer (R144 to R148, R157). -/

namespace Sys2Proof.Machine

set_option Elab.async false

/-! ### The next block of a READ -/

section Serve

variable {fuel n next i : Nat} {medium : Bool} {again : List Nat} {failure : Option ReadFailure} {s : State}

/-- A block whose window is held, and which is not valid there, is read from the medium (R145). -/
theorem serveRead_begins {q : Nat} (work : jobWork s = some (.read next medium again failure))
    (position : nextPosition next (transferRange s).2 again failure = some q) (block : (transferRange s).1 + q = n)
    (window : findWindow (windowBase n) s = some i) (attached : (segmentAt s i).attachment = .order) (missing : n % 16 ∉ (segmentAt s i).valid) :
    serveRead (fuel + 1) s = beginMapped (.block n) .read s := by
  have asked : askSegment n .order true s = (s, .given i) := by simp [askSegment, window, attached]
  subst block
  simp [serveRead, work, position, asked, missing]

/-- A block that no segment holds is read into the segment that is allocated to its window (R143, R145). -/
theorem serveRead_allocates {q : Nat} (work : jobWork s = some (.read next medium again failure))
    (position : nextPosition next (transferRange s).2 again failure = some q) (block : (transferRange s).1 + q = n)
    (window : findWindow (windowBase n) s = none) (free : freeCandidate s = some i) (hi : i < s.sgc.segments.length) :
    serveRead (fuel + 1) s = beginMapped (.block n) .read (allocate i (windowBase n) .order s) := by
  have asked : askSegment n .order true s = (allocate i (windowBase n) .order s, .given i) := by simp [askSegment, window, candidate, free]
  have empty : (segmentAt (allocate i (windowBase n) .order s) i).valid = [] := by
    rw [segmentAt_modify_same (s := s) rfl hi]
  subst block
  simp [serveRead, work, position, asked, empty]

theorem serveRead_served (work : jobWork s = some (.read next medium again failure))
    (position : nextPosition next (transferRange s).2 again failure = none) : serveRead (fuel + 1) s = done s := by
  simp [serveRead, work, position]

end Serve

theorem readWork_serves {next : Nat} {medium : Bool} {again : List Nat} {failure : Option ReadFailure} {s : State}
    (work : jobWork s = some (.read next medium again failure)) : readWork s = serveRead ((transferRange s).2 + again.length + 1) s := by
  simp [readWork, work]

theorem nextSector_read {next : Nat} {medium : Bool} {again : List Nat} {j : Job} {s : State} (job : s.txe.job = some j) (flushing : j.flushing = none)
    (suspended : j.suspended = none) (work : j.work = .read next medium again none) :
    nextSector s = serveRead ((transferRange s).2 + again.length + 1) s := by
  rw [nextSector_resumes job flushing, ← readWork_serves (failure := none) ((jobWork_of job).trans (congrArg some work))]
  cases again with
  | nil =>
    rw [resumeWork_on job suspended (by simp [work])]
    simp [workOn, jobWork_of job, work]
  | cons q t =>
    obtain ⟨kind, role, _, _, _⟩ := j
    subst flushing suspended work
    simp [resumeWork, job]

/-- Settles O40. -/
theorem readAllocatesAndLooks : Obligations.ReadAllocatesAndLooks := by
  intro tag first count i s quietReady idle least most valid fits window free hi
  obtain ⟨quiet, ready, -⟩ := quietReady
  obtain ⟨-, -, -, -, -, noJob, -⟩ := id quiet
  have passed : transferRefused false first count (accepted ⟨tag, .read first count⟩ s) = none :=
    (transferRefused_counted least most valid).trans ((if_neg (by simp)).trans (if_neg (Nat.not_lt.mpr fits)))
  have takes : beginOrder ⟨tag, .read first count⟩ (accepted ⟨tag, .read first count⟩ s) =
      readWork (inSlot ⟨tag, .read first count⟩ (.read 0 false [] none) s) :=
    (beginOrder_proceeds rfl rfl (by exact ready)).trans ((proceed_read rfl passed).trans (requestSlot_free (by exact noJob)))
  have position : nextPosition 0 count [] none = some 0 := by
    have : 0 < count := least
    simp [nextPosition, this]
  have serves : readWork (inSlot ⟨tag, .read first count⟩ (.read 0 false [] none) s) =
      beginMapped (.block first) .read (allocate i (windowBase first) .order (inSlot ⟨tag, .read first count⟩ (.read 0 false [] none) s)) :=
    (readWork_serves rfl).trans (serveRead_allocates rfl position rfl window free hi)
  obtain ⟨v, p, l, phase, -, begins, ignored⟩ := (positioned_beginMapped (.block first) .read
    (s := allocate i (windowBase first) .order (inSlot ⟨tag, .read first count⟩ (.read 0 false [] none) s)) idle).begun
  refine leads_of (next_of_settle (settle_accepted quiet (.inl (by simp [ready])) (takes.trans (serves.trans begins)) (drain_ignored ignored))) ?_
  refine ⟨⟨rfl, rfl, rfl, rfl⟩,
    segmentAt_modify_same (s := s) (f := fun g => { g with base := windowBase first, valid := [], dirty := [], attachment := .order }) rfl hi, fun k other => segmentAt_modify_other (s := s) rfl other, rfl, rfl,
    ⟨_, rfl, rfl, rfl, rfl, rfl, rfl, rfl, phase⟩, rfl, rfl, ?_, ?_, ready, rfl⟩ <;> and_intros <;> rfl

/-! ### The end of a read field -/

/-- The state in which a good field has been stored (R144, R146). -/
abbrev fieldStored (i n : Nat) (data : List Byte) (s : State) : State :=
  { s with sgc := { portReleased s.sgc with
      segments := s.sgc.segments.modify i (validated n), buffer := writeBytes s.sgc.buffer (8192 * i + 512 * (n % 16)) data } }

theorem readFieldAct_good {o : SectorOp} {n i : Nat} {data : List Byte} {s : State} (op : s.txe.op = some o) (phase : o.phase = .transferring)
    (dir : o.dir = .read) (target : o.target = .block n) (window : findWindow (windowBase n) s = some i) (length : data.length = 512) :
    readFieldAct data true s = opEnded (decide (0 < o.retries)) (modJob Job.readMedium (fieldStored i n data s)) := by
  have whole : data.take 512 = data := List.take_of_length_le (by omega)
  unfold readFieldAct
  simp only [op, phase, dir, target, window]
  simp only [storeBlock, whole]
  rfl

theorem readFieldAct_bad {o : SectorOp} {n i : Nat} {data : List Byte} {s : State} (op : s.txe.op = some o) (phase : o.phase = .transferring)
    (dir : o.dir = .read) (target : o.target = .block n) (window : findWindow (windowBase n) s = some i) :
    readFieldAct data false s = countRetry false .looking (storeBlock i n data (mediaRelease s)) := by
  unfold readFieldAct
  simp only [op, phase, dir, target, window]
  rfl

/-- The window of a block keeps its segment when a block of it becomes valid. -/
theorem findWindow_fieldStored {b n i : Nat} {s t : State} (segments : t.sgc.segments = s.sgc.segments.modify i (validated n))
    (held : (segmentAt s i).holdsWindow = true) : findWindow b t = findWindow b s := by
  refine findWindow_modify segments rfl ?_
  rw [held]
  have some_ : insertNat (n % 16) (segmentAt s i).valid ≠ [] := List.ne_nil_of_mem (mem_insertNat.mpr (.inl rfl))
  simp [validated, Segment.holdsWindow, some_]

/-- Settles O23. -/
theorem readFieldsEnd : Obligations.ReadFieldsEnd := by
  intro data o n i first count q medium e s op phase dir target window noEnd noYield
  obtain ⟨-, base, held⟩ := findWindow_some window
  refine ⟨fun below same => ?bad, fun executing kind block job hi length => ?good⟩
  case bad =>
    have act := (readFieldAct_bad (data := data) op phase dir target window).trans
      (countRetry_again (ph := .looking) (by exact op) (by exact below) same (by exact noEnd) (by exact noYield))
    refine leads_of (next_of_done act) ⟨rfl, rfl, rfl, rfl, rfl, ?_⟩
    and_intros <;> rfl
  case good =>
    have advance : (orderJob (.read q true [] none)).advance (opPosition o (modJob Job.readMedium (fieldStored i n data s))) =
        orderJob (.read (q + 1) true [] none) := by
      have position : opPosition o (modJob Job.readMedium (fieldStored i n data s)) = q := by
        have range : transferRange (modJob Job.readMedium (fieldStored i n data s)) = (first, count) := transferRange_read executing kind
        have offset : opPosition o (modJob Job.readMedium (fieldStored i n data s)) =
            n - (transferRange (modJob Job.readMedium (fieldStored i n data s))).1 := by simp only [opPosition, target]
        rw [offset, range, block, Nat.add_sub_cancel_left]
      rw [position]
      simp [Job.advance, Work.served]
    have readJob : (modJob Job.readMedium (fieldStored i n data s)).txe.job = some (orderJob (.read q true [] none)) := by
      simp [modJob, job, Job.readMedium]
    have act := (readFieldAct_good op phase dir target window length).trans (opEnded_of op readJob (by simp) (by simp [advance]))
    have whole : sectorOver (decide (0 < o.retries)) (orderJob (.read (q + 1) true [] none)) (modJob Job.readMedium (fieldStored i n data s)) =
        sectorOver (decide (0 < o.retries)) (orderJob (.read (q + 1) true [] none)) (fieldStored i n data s) := rfl
    rw [advance, whole, boundary_free (by exact noEnd) (by exact noYield), nextSector_read rfl rfl rfl rfl] at act
    have range : transferRange (sectorOver (decide (0 < o.retries)) (orderJob (.read (q + 1) true [] none)) (fieldStored i n data s)) =
      (first, count) := transferRange_read executing kind
    refine ⟨fun last => ?last, fun more inside attached missing idle => ?next⟩
    case last =>
      have served := act.trans (serveRead_served rfl (by rw [range]; simp [nextPosition, last]))
      refine leads_of (next_of_done served) ?_
      subst last
      refine ⟨rfl, rfl, congrArg Segment.valid (segmentAt_modify_same (s := s) (f := validated n) rfl hi), 
        (congrArg Segment.dirty (segmentAt_modify_same (s := s) (f := validated n) rfl hi)).trans rfl,
        fun k other => segmentAt_modify_other (s := s) rfl other, rfl, rfl, rfl, ?_⟩
      and_intros <;> rfl
    case next =>
      have base' : windowBase (n + 1) = windowBase n := by
        unfold windowBase
        omega
      have stays : findWindow (windowBase (n + 1)) (sectorOver (decide (0 < o.retries)) (orderJob (.read (q + 1) true [] none))
          (fieldStored i n data s)) = some i := by
        rw [base', findWindow_fieldStored (s := s) rfl held, window]
      have stored : segmentAt (sectorOver (decide (0 < o.retries)) (orderJob (.read (q + 1) true [] none)) (fieldStored i n data s)) i =
        validated n (segmentAt s i) := segmentAt_modify_same (s := s) (f := validated n) rfl hi
      have begins := act.trans (serveRead_begins (q := q + 1) (n := n + 1) rfl (by rw [range]; simp [nextPosition, more])
        (by rw [range]; omega) stays (by rw [stored]; exact attached) (by
          rw [stored]
          intro mem
          rcases mem_insertNat.mp mem with same | mem
          · omega
          · exact missing mem))
      obtain ⟨v, p, l, started, -, position, ignored⟩ := (positioned_beginMapped (.block (n + 1)) .read (s := sectorOver (decide (0 < o.retries))
        (orderJob (.read (q + 1) true [] none)) (fieldStored i n data s)) idle).begun
      refine leads_of (next_of_settle (settle_of (begins.trans position) (drain_ignored ignored))) ?_
      refine ⟨worksOn_fresh rfl started, rfl, segmentAt_modify_same (s := s) (f := validated n) rfl hi, fun k other => segmentAt_modify_other (s := s) rfl other, rfl,
        rfl, rfl, ?_⟩
      and_intros <;> rfl

/-! ### Parity -/

theorem spoil_ne (crc : Word16) : spoil crc ≠ crc := by
  have mask : (if Config.spoilMask = 0 then (1 : Word16) else Config.spoilMask) ≠ 0 := by
    split
    · decide
    · assumption
  intro same
  refine mask ?_
  have := congrArg (crc ^^^ ·) same
  simpa [spoil, ← BitVec.xor_assoc] using this

theorem be2_injective {a b : Word16} (same : be2 a.toNat = be2 b.toNat) : a = b := by
  simp only [be2, byteOf, List.cons.injEq, and_true] at same
  obtain ⟨high, low⟩ := same
  have high := congrArg BitVec.toNat high
  have low := congrArg BitVec.toNat low
  simp only [BitVec.toNat_ofNat] at high low
  refine BitVec.eq_of_toNat_eq ?_
  have := a.isLt
  have := b.isLt
  omega

/-- A frame cut short ends with a CRC that does not match (R148). -/
theorem spoiledAfter_of {address tag p at_ : Nat} {data : List Byte} {t : State} (cable : t.lif.cable = spoiledFrame address tag p at_ data) :
    SpoiledAfter ((frameBody 0x82 address tag p data).take (6 + at_)) t := by
  rw [SpoiledAfter, cable, spoiledFrame]
  refine ⟨List.take_left, by simp [be2, kindDataIn], fun same => spoil_ne _ (be2_injective (List.append_cancel_left same))⟩

/-- The state in which a DATA_IN frame has been cut short by a parity error. -/
abbrev frameSpoiled (tag p at_ i n : Nat) (s : State) : State :=
  { s with
    lif := { s.lif with
      exchange := .spoiled
      cable := spoiledFrame s.lif.driveAddress tag p at_ (readBytes s.sgc.buffer (8192 * i + 512 * (n % 16)) 512) }
    sgc := { s.sgc with linkPort := .idle } }

section LinkParity

variable {tag first count p at_ i n b : Nat} {s : State}
  (exchange : s.lif.exchange = .block p) (block : n = first + p)
  (executing : s.lif.executing = some { order := { tag := tag, kind := .read first count }, remnant := false, stage := .inSlot, blocks := b })
  (window : findWindow (windowBase n) s = some i)
include exchange block executing window

theorem linkParityAct_dirty (dirty : n % 16 ∈ (segmentAt s i).dirty) :
    linkParityAct at_ s = failRead { outcome := .dataError, detail := .block n, limit := p } (blockLost i n (frameSpoiled tag p at_ i n s)) := by
  subst block
  simp only [linkParityAct, exchange, executing, window, List.contains_iff_mem.mpr dirty, if_true, loseBlock_eq]
  rfl

theorem linkParityAct_clean (clean : n % 16 ∉ (segmentAt s i).dirty) :
    linkParityAct at_ s = turnToAgain (modJob (Job.readAgain p) (dropBlock i n (frameSpoiled tag p at_ i n s))) := by
  subst block
  simp only [linkParityAct, exchange, executing, window, List.contains_iff_mem, clean, if_false]
  rfl

end LinkParity

/-- A READ that has failed at a block already reached ends at once, its blocks delivered before (R148). -/
theorem failRead_ends {f : ReadFailure} {m : Nat} {medium : Bool} {e : Executing} {s : State} (job : s.txe.job = some (orderJob (.read m medium [] none)))
    (executing : s.lif.executing = some e) (reached : f.limit ≤ e.blocks) :
    failRead f s = endOrderJob f.outcome f.detail [] { s with txe := { s.txe with job := some (orderJob (.read m medium [] (some f))) } } := by
  simp [failRead, modJob, State.modTxe, job, blocksDone, executing, reached, finishRead, jobWork]

/-- The state in which a clean block has left its valid set to be read again (R148). -/
abbrev turnedAgain (i n p m : Nat) (s : State) : State :=
  { s with
    txe := { s.txe with job := some (orderJob (.read m true [p] none)) }
    sgc := { s.sgc with
      segments := s.sgc.segments.modify i (dropped n), flushWanted := stillWanted (s.sgc.segments.modify i (dropped n)) s.sgc.flushWanted } }

theorem turnToAgain_free {i n p m : Nat} {s : State} (noOp : s.txe.op = none) (job : s.txe.job = some (orderJob (.read m true [] none)))
    (noEnd : s.txe.endPending = .no) (noYield : s.txe.yieldPending = false) :
    turnToAgain (modJob (Job.readAgain p) (dropBlock i n s)) = nextSector (turnedAgain i n p m s) := by
  have again : modJob (Job.readAgain p) (dropBlock i n s) = turnedAgain i n p m s := by
    rw [dropBlock_eq]
    simp [modJob, State.modTxe, job, Job.readAgain]
  have aside : setAside (turnedAgain i n p m s) = turnedAgain i n p m s := by simp [setAside, noOp]
  rw [again, turnToAgain, if_pos ⟨by simp [atBoundary, noOp], rfl⟩, aside]
  exact boundary_free noEnd noYield

theorem dropped_of_clean {n : Nat} {g : Segment} (clean : n % 16 ∉ g.dirty) : dropped n g = { g with valid := eraseNat (n % 16) g.valid } := by
  have stays : eraseNat (n % 16) g.dirty = g.dirty := List.filter_eq_self.mpr fun x mem => bne_iff_ne.mpr fun same => clean (same ▸ mem)
  rw [dropped, stays]

/-- Settles O25. -/
theorem parityLosesTheBlock : Obligations.ParityLosesTheBlock := by
  intro o n i tag first count p m at_ s window hi noEnd noYield
  refine ⟨fun op phase dir target last job => ?media, fun exchange block executing =>
    ⟨fun noOp idle attached clean job => ?clean, fun dirty job waits wanted => ?dirty⟩⟩
  case media =>
    have act : mediaParityAct s = boundary nextSector (clearOp (loseBlock i n s)) := by
      obtain ⟨_, _, _, _, _, _, _, _⟩ := o
      subst phase dir target
      simp [mediaParityAct, op, window]
    rw [loseBlock_eq, boundary_free (by exact noEnd) (by exact noYield)] at act
    have gone_ : (segmentAt (clearOp (blockLost i n s)) i).dirty = [] := by
      rw [segmentAt_modify_same (s := s) (f := dropped n) rfl hi]
      simp [dropped, last, eraseNat_single]
    have goesOn := act.trans ((nextSector_flushed (by exact job) rfl gone_).trans ((segmentFlushOver_of (by exact job)).trans
      (resumeWork_write (through := false) rfl rfl rfl)))
    have here : segmentAt { clearOp (blockLost i n s) with sgc := { (clearOp (blockLost i n s)).sgc with
        segments := (clearOp (blockLost i n s)).sgc.segments.modify i freed } } i = freed (dropped n (segmentAt s i)) := by
      rw [segmentAt_modify_same (s := blockLost i n s) (f := freed) rfl (by simpa using hi), segmentAt_modify_same (s := s) (f := dropped n) rfl hi]
    refine leads_of (next_of_done goesOn) ⟨rfl, rfl, rfl, rfl, (congrArg Segment.dirty here).trans ?_, congrArg Segment.valid here, fun k other => ?_,
      rfl, rfl, rfl, rfl, rfl, ?_⟩
    · simp [dropped, last, eraseNat_single]
    · exact (segmentAt_modify_other (s := blockLost i n s) (f := freed) rfl other).trans (segmentAt_modify_other (s := s) (f := dropped n) rfl other)
    · and_intros <;> rfl
  case clean =>
    obtain ⟨-, base, held⟩ := findWindow_some window
    have act := (linkParityAct_clean (at_ := at_) exchange block executing window clean).trans
      ((turnToAgain_free (m := m) (s := frameSpoiled tag p at_ i n s) (by exact noOp) (by exact job) (by exact noEnd) (by exact noYield)).trans
        (nextSector_read rfl rfl rfl rfl))
    have here : segmentAt (turnedAgain i n p m (frameSpoiled tag p at_ i n s)) i = dropped n (segmentAt s i) :=
      segmentAt_modify_same (s := s) (f := dropped n) rfl hi
    have stays : findWindow (windowBase n) (turnedAgain i n p m (frameSpoiled tag p at_ i n s)) = some i := by
      rw [findWindow_modify (s := s) (f := dropped n) (i := i) rfl rfl 
        (by simp [dropped, Segment.holdsWindow, attached, show (Attachment.order != Attachment.free) = true from rfl]), window]
    have range : transferRange (turnedAgain i n p m (frameSpoiled tag p at_ i n s)) = (first, count) := transferRange_read executing rfl
    have begins := act.trans (serveRead_begins (q := p) (n := n) rfl rfl (by rw [range, block]) stays (by rw [here]; exact attached)
      (by rw [here]; simp [dropped, mem_eraseNat]))
    obtain ⟨v, ph, l, started, -, position, ignored⟩ := (positioned_beginMapped (.block n) .read
      (s := turnedAgain i n p m (frameSpoiled tag p at_ i n s)) idle).begun
    refine leads_of (next_of_settle (settle_of (begins.trans position) (drain_ignored ignored))) ?_
    refine ⟨spoiledAfter_of rfl, rfl, here.trans (dropped_of_clean clean), fun k other => segmentAt_modify_other (s := s) (f := dropped n) rfl other,
      worksOn_fresh rfl started, rfl, rfl, rfl, rfl, ?_⟩
    and_intros <;> rfl
  case dirty =>
    have act := (linkParityAct_dirty (at_ := at_) exchange block executing window dirty).trans (failRead_ends (by exact job) (by exact executing) le_rfl)
    have here : segmentAt { blockLost i n (frameSpoiled tag p at_ i n s) with
        sgc := { (blockLost i n (frameSpoiled tag p at_ i n s)).sgc with
          segments := (blockLost i n (frameSpoiled tag p at_ i n s)).sgc.segments.map freed } } i = freed (dropped n (segmentAt s i)) := by
      rw [segmentAt_map (s := blockLost i n s) (f := freed) rfl rfl, segmentAt_modify_same (s := s) (f := dropped n) rfl hi]
    refine leads_of (next_of_settle (settle_endOrderJob act (by exact executing) rfl (by exact waits) (by simp [stillWanted, wanted]))) ?_
    rw [startFlushTimer_eq]
    refine ⟨spoiledAfter_of rfl, congrArg Segment.dirty here, congrArg Segment.valid here, rfl, rfl, rfl, rfl, rfl, rfl, ?_⟩
    and_intros <;> rfl

end Sys2Proof.Machine

/-! REASSIGN and COMMIT_LABEL from READY (R111, R112, R118, R119). -/

namespace Sys2Proof.Machine

set_option Elab.async false

/-- An order that takes the slot and ends its job at once leaves its report. -/
theorem settle_acceptedPlain {tag : Nat} {k : OrderKind} {o : Outcome} {s t : State} (quiet : Quiet tag s)
    (calm : s.csq.lifecycle ≠ .calibrate ∨ k.needsMedium = false) (begun : beginOrder ⟨tag, k⟩ (accepted ⟨tag, k⟩ s) = endOrderJobPlain o t)
    (executing : t.lif.executing = some { order := ⟨tag, k⟩, remnant := false, stage := .inSlot, blocks := 0 }) (waits : NothingWaits t)
    (wanted : t.sgc.flushWanted = false) :
    settle (acceptOrder tag k s) = finish (startFlushTimer (jobEnded
      { tag := tag, kind := k, outcome := o, blocks := 0, detail := k.detail, lifecycle := t.csq.lifecycle } t)) :=
  settle_acceptedJobEnded quiet calm (begun.trans ((endOrderJobPlain_of executing).trans (endOrderJob_live executing rfl))) waits wanted

section Reassign

variable {n k : Nat} {s : State}

theorem reassignAct_outOfRange (valid : s.txe.labelStatus = .valid) (writable : s.csq.writeProtected = false) (beyond : s.txe.capacity ≤ n) :
    reassignAct n s = endOrderJobPlain .outOfRange s := by simp [reassignAct, valid, writable, beyond]

theorem reassignAct_known (valid : s.txe.labelStatus = .valid) (writable : s.csq.writeProtected = false) (inRange : n < s.txe.capacity)
    (known : (lookupDefect n s.txe.defects).isSome = true) : reassignAct n s = endOrderJobPlain .done s := by
  simp [reassignAct, valid, writable, Nat.not_le.mpr inRange, known]

/-- The state with an entry inserted in the defect list. -/
abbrev reassigned (n k : Nat) (s : State) : State :=
  { s with txe := { s.txe with defects := insertDefect { block := n, spare := k } s.txe.defects, labelModified := true } }

section Inserts

variable {i : Nat} (valid : s.txe.labelStatus = .valid) (writable : s.csq.writeProtected = false) (inRange : n < s.txe.capacity)
  (unknown : lookupDefect n s.txe.defects = none) (room : s.txe.defects.length < 128) (spare : freeSpare s.txe.spareCount s.txe.defects = some k)
include valid writable inRange unknown room spare

theorem reassignAct_inserts_beside (missing : blockValid n s = false) : reassignAct n s = endOrderJobPlain .done (reassigned n k s) := by
  unfold reassignAct
  rw [if_neg (by simp [valid]), if_neg (by simp [writable]), if_neg (Nat.not_le.mpr inRange), if_neg (by simp [unknown]),
    if_neg (Nat.not_le.mpr room)]
  simp only [spare]
  split
  next i window =>
    have window' : findWindow (windowBase n) s = some i := window
    have absent : ¬ (segmentAt s i).valid.contains (n % 16) = true := by simpa [blockValid, window'] using missing
    exact congrArg (endOrderJobPlain .done) (if_neg absent)
  next => rfl

theorem reassignAct_inserts_dirty (window : findWindow (windowBase n) s = some i) (mem : n % 16 ∈ (segmentAt s i).valid) :
    reassignAct n s = endOrderJobPlain .done (addDirty i n (reassigned n k s)) := by
  unfold reassignAct
  rw [if_neg (by simp [valid]), if_neg (by simp [writable]), if_neg (Nat.not_le.mpr inRange), if_neg (by simp [unknown]),
    if_neg (Nat.not_le.mpr room)]
  simp only [spare]
  split
  next _ found =>
    obtain rfl := Option.some.inj (window.symm.trans found)
    exact congrArg (endOrderJobPlain .done) (if_pos (List.contains_iff_mem.mpr mem))
  next none => exact nomatch window.symm.trans none

end Inserts

end Reassign

theorem freed_segmentAt {i : Nat} {s : State} (unattached : Unattached s) : freed (segmentAt s i) = segmentAt s i := by
  by_cases hi : i < s.sgc.segments.length
  · rw [segmentAt_eq_getElem hi, freed, ← unattached _ (List.getElem_mem hi)]
  · simp [segmentAt, Nat.not_lt.mp hi, freeSegment]

/-- Settles O43. -/
theorem reassignInsertsAnEntry : Obligations.ReassignInsertsAnEntry := by
  intro tag block k i s quietReady unattached valid writable
  obtain ⟨quiet, ready, due⟩ := id quietReady
  obtain ⟨-, -, -, -, -, noJob, -, noDeparture, wanted, -⟩ := id quiet
  have takes : beginOrder ⟨tag, .reassign block⟩ (accepted ⟨tag, .reassign block⟩ s) = reassignAct block (inSlot ⟨tag, .reassign block⟩ .flush s) :=
    (beginOrder_proceeds rfl rfl (by exact ready)).trans (requestSlot_free (by exact noJob))
  have calm : s.csq.lifecycle ≠ .calibrate := by simp [ready]
  have records := map_freed_of_unattached unattached
  refine ⟨fun inRange unknown room spare missing => ?inserts, fun inRange unknown room spare window mem => ?dirties,
    fun inRange known => ?known, fun beyond => ?beyond⟩
  case inserts =>
    have act := takes.trans (reassignAct_inserts_beside (s := inSlot ⟨tag, .reassign block⟩ .flush s) valid writable inRange unknown room spare missing)
    refine leads_of (next_of_settle (settle_acceptedPlain quiet (.inl calm) act rfl ⟨rfl, ready, due, rfl, noDeparture⟩ wanted)) ?_
    rw [startFlushTimer_eq]
    refine ⟨?_, rfl, rfl, valid, rfl, rfl, ?_, ?_, records, ?_⟩ <;> and_intros <;> rfl
  case dirties =>
    obtain ⟨hi, -, -⟩ := findWindow_some window
    have act := takes.trans (reassignAct_inserts_dirty (s := inSlot ⟨tag, .reassign block⟩ .flush s) valid writable inRange unknown room spare window mem)
    refine leads_of (next_of_settle (settle_acceptedPlain quiet (.inl calm) act rfl ⟨rfl, ready, due, rfl, noDeparture⟩ wanted)) ?_
    rw [startFlushTimer_eq]
    have here : segmentAt (withSegments ((addDirty i block s).sgc.segments.map freed) s) i =
        { freed (segmentAt s i) with
          valid := insertNat (block % 16) (segmentAt s i).valid, dirty := insertNat (block % 16) (segmentAt s i).dirty } := by
      rw [segmentAt_map (s := addDirty i block s) (f := freed) rfl rfl, addDirty, segmentAt_modSegment hi]
    have other : ∀ k, k ≠ i → segmentAt (withSegments ((addDirty i block s).sgc.segments.map freed) s) k = segmentAt s k := fun k apart => by
      rw [segmentAt_map (s := addDirty i block s) (f := freed) rfl rfl, addDirty, segmentAt_modify_other (s := s) rfl apart, freed_segmentAt unattached]
    refine ⟨?_, rfl, rfl, valid, rfl, rfl, congrArg Segment.dirty here, ?_, other, rfl, rfl, ?_⟩
    · and_intros <;> rfl
    · exact (congrArg (block % 16 ∈ ·) (congrArg Segment.valid here)).mpr (mem_insertNat.mpr (.inl rfl))
    · and_intros <;> rfl
  case known =>
    have act := takes.trans (reassignAct_known (s := inSlot ⟨tag, .reassign block⟩ .flush s) valid writable inRange known)
    refine leads_of (next_of_settle (settle_acceptedPlain quiet (.inl calm) act rfl ⟨rfl, ready, due, rfl, noDeparture⟩ wanted)) ?_
    rw [startFlushTimer_eq]
    refine ⟨?_, ?_, ?_, ⟨records, ?_⟩, ?_⟩ <;> and_intros <;> rfl
  case beyond =>
    have act := takes.trans (reassignAct_outOfRange (s := inSlot ⟨tag, .reassign block⟩ .flush s) valid writable beyond)
    refine leads_of (next_of_settle (settle_acceptedPlain quiet (.inl calm) act rfl ⟨rfl, ready, due, rfl, noDeparture⟩ wanted)) ?_
    rw [startFlushTimer_eq]
    refine ⟨?_, ?_, ?_, ⟨records, ?_⟩, ?_⟩ <;> and_intros <;> rfl

/-! ### COMMIT_LABEL -/

theorem proceed_commit {option : Nat} {s : State} (kind : orderKind s = some (.commitLabel option)) (passed : commitRefused option s = none) :
    proceed s = requestSlot s := by simp [proceed, kind, passed]

theorem proceed_commit_refused {option : Nat} {o : Outcome} {s : State} (kind : orderKind s = some (.commitLabel option))
    (refused : commitRefused option s = some o) : proceed s = endOwned o s := by simp [proceed, kind, refused]

/-- Settles O44: the checks in their order, and then the label's first sector. -/
theorem commitBeginsTheLabelWrite : Obligations.CommitBeginsTheLabelWrite := by
  intro tag option s quietReady idle low
  obtain ⟨quiet, ready, -⟩ := id quietReady
  obtain ⟨-, -, -, -, -, noJob, -⟩ := id quiet
  have calm : s.csq.lifecycle ≠ .calibrate := by simp [ready]
  have ok : parameterFault (.commitLabel option) = none := if_pos low
  have proceeds : beginOrder ⟨tag, .commitLabel option⟩ (accepted ⟨tag, .commitLabel option⟩ s) = proceed (accepted ⟨tag, .commitLabel option⟩ s) :=
    beginOrder_proceeds rfl ok (by exact ready)
  have refuses : ∀ o, commitRefused option (accepted ⟨tag, .commitLabel option⟩ s) = some o →
      settle (acceptOrder tag (.commitLabel option) s) = finish (startFlushTimer (ended
        { tag := tag, kind := .commitLabel option, outcome := o, blocks := 0, detail := .table 6, lifecycle := s.csq.lifecycle }
        (accepted ⟨tag, .commitLabel option⟩ s))) := fun o refused =>
    settle_endedAtOnce quiet (.inl calm) ((proceeds.trans (proceed_commit_refused rfl refused)).trans
      (endOwned_live (e := ⟨⟨tag, .commitLabel option⟩, false, .dispatched, 0⟩) rfl rfl)) rfl
  refine ⟨fun readLabel writable own => ?begins, fun writable foreign zero => ?foreign, fun protected_ readLabel => ?protects⟩
  case begins =>
    have passed : commitRefused option (accepted ⟨tag, .commitLabel option⟩ s) = none :=
      (if_neg readLabel).trans ((if_neg (by simp [writable])).trans (if_neg fun ⟨foreign, other⟩ => other (own foreign)))
    have takes : beginOrder ⟨tag, .commitLabel option⟩ (accepted ⟨tag, .commitLabel option⟩ s) =
        beginLabelWrite (inSlot ⟨tag, .commitLabel option⟩ (.label [1, 2, 0] false) s) :=
      proceeds.trans ((proceed_commit rfl passed).trans (requestSlot_free (by exact noJob)))
    obtain ⟨v, p, l, phase, -, begins, ignored⟩ := (positioned_beginMapped (.label 1) .write
      (s := modJob (fun j => { j with work := .label [1, 2, 0] false })
        ((inSlot ⟨tag, .commitLabel option⟩ (.label [1, 2, 0] false) s).modTxe fun t => { t with labelStore := labelSectors t })) idle).begun
    refine leads_of (next_of_settle (settle_accepted quiet (.inl calm) (takes.trans begins) (drain_ignored ignored))) ?_
    refine ⟨⟨rfl, rfl, rfl, rfl⟩, rfl, ⟨_, rfl, rfl, rfl, rfl, rfl, rfl, phase⟩, rfl, rfl, ?_, ?_, ?_, ready⟩ <;> and_intros <;> rfl
  case foreign =>
    have refused : commitRefused option (accepted ⟨tag, .commitLabel option⟩ s) = some .foreign :=
      (if_neg (by simp [foreign])).trans ((if_neg (by simp [writable])).trans (if_pos ⟨foreign, by simp [zero]⟩))
    refine leads_of (next_of_settle (refuses _ refused)) ?_
    rw [startFlushTimer_eq]
    and_intros <;> rfl
  case protects =>
    have refused : commitRefused option (accepted ⟨tag, .commitLabel option⟩ s) = some .writeProtected :=
      (if_neg readLabel).trans (if_pos protected_)
    refine leads_of (next_of_settle (refuses _ refused)) ?_
    rw [startFlushTimer_eq]
    and_intros <;> rfl

end Sys2Proof.Machine

/-! Bytes and fields: numbers written most significant byte first and read back, and the frames that carry them (section 11.1). -/

namespace Sys2Proof.Machine

set_option Elab.async false

/-! ### Numbers and bytes -/

theorem byteOf_toNat {n : Nat} (small : n < 256) : (byteOf n).toNat = n := by
  simp [byteOf, Nat.mod_eq_of_lt small]

theorem byteOf_of_toNat (b : Byte) : byteOf b.toNat = b := by simp [byteOf]

theorem ofBytes_be2 {n : Nat} (small : n < 65536) : ofBytes (be2 n) = n := by
  simp only [be2, ofBytes, byteOf, List.foldl_cons, List.foldl_nil, BitVec.toNat_ofNat]
  omega

theorem ofBytes_be3 {n : Nat} (small : n < 16777216) : ofBytes (be3 n) = n := by
  simp only [be3, be2, ofBytes, byteOf, List.foldl_cons, List.foldl_nil, BitVec.toNat_ofNat]
  omega

theorem ofBytes_be4 {n : Nat} (small : n < 4294967296) : ofBytes (be4 n) = n := by
  simp only [be4, be3, be2, ofBytes, byteOf, List.foldl_cons, List.foldl_nil, BitVec.toNat_ofNat]
  omega

theorem be2_length (n : Nat) : (be2 n).length = 2 := rfl

theorem be3_length (n : Nat) : (be3 n).length = 3 := rfl

theorem be4_length (n : Nat) : (be4 n).length = 4 := rfl

theorem be2_ofBytes {l : List Byte} (length : l.length = 2) : be2 (ofBytes l) = l := by
  obtain ⟨a, b, rfl⟩ := List.length_eq_two.mp length
  have := a.isLt
  have := b.isLt
  simp only [ofBytes, be2, byteOf, List.foldl_cons, List.foldl_nil, List.cons.injEq, and_true]
  refine ⟨?_, ?_⟩ <;> refine BitVec.eq_of_toNat_eq ?_ <;> simp only [BitVec.toNat_ofNat] <;> omega

theorem be4_ofBytes {l : List Byte} (length : l.length = 4) : be4 (ofBytes l) = l := by
  match l, length with
  | [a, b, c, d], _ =>
    have := a.isLt
    have := b.isLt
    have := c.isLt
    have := d.isLt
    simp only [ofBytes, be4, be3, be2, byteOf, List.foldl_cons, List.foldl_nil, List.cons.injEq, and_true]
    refine ⟨?_, ?_, ?_, ?_⟩ <;> refine BitVec.eq_of_toNat_eq ?_ <;> simp only [BitVec.toNat_ofNat] <;> omega

/-! ### Slices -/

theorem slice_length {o n : Nat} {l : List Byte} (fits : o + n ≤ l.length) : (slice o n l).length = n := by
  simp only [slice, List.length_take, List.length_drop]
  omega

theorem slice_append_slice (o m n : Nat) (l : List Byte) : slice o m l ++ slice (o + m) n l = slice o (m + n) l := by
  rw [slice, slice, slice, List.take_add, List.drop_drop]

theorem slice_whole {l : List Byte} {n : Nat} (length : l.length = n) : slice 0 n l = l := by
  simp [slice, ← length]

/-- The field in the middle of a text. -/
theorem slice_middle {a b c : List Byte} {o n : Nat} (offset : a.length = o) (length : b.length = n) : slice o n (a ++ (b ++ c)) = b := by
  subst offset length
  simp [slice]

theorem be2_fieldAt {o : Nat} {l : List Byte} (fits : o + 2 ≤ l.length) : be2 (fieldAt o 2 l) = slice o 2 l := be2_ofBytes (slice_length fits)

theorem be4_fieldAt {o : Nat} {l : List Byte} (fits : o + 4 ≤ l.length) : be4 (fieldAt o 4 l) = slice o 4 l := be4_ofBytes (slice_length fits)

theorem byteOf_byteAt {o : Nat} {l : List Byte} (fits : o < l.length) : [byteOf (byteAt o l)] = slice o 1 l := by
  rw [byteAt, byteOf_of_toNat, slice, List.getD_eq_getElem _ _ fits, List.drop_eq_getElem_cons fits]
  rfl

/-! ### Frames -/

section Frame

variable {kind address tag index : Nat} {payload : List Byte}

theorem frameBody_length : (frameBody kind address tag index payload).length = 6 + payload.length := by
  simp [frameBody, be2]
  omega

theorem encodeFrame_length : (encodeFrame kind address tag index payload).length = payload.length + 8 := by
  simp [encodeFrame, frameBody_length, be2]
  omega

theorem byteAt_frame (kind address tag index : Nat) (payload : List Byte) :
    byteAt 0 (encodeFrame kind address tag index payload) = (byteOf kind).toNat ∧
      byteAt 1 (encodeFrame kind address tag index payload) = (byteOf address).toNat ∧
      byteAt 2 (encodeFrame kind address tag index payload) = (byteOf tag).toNat ∧
      byteAt 3 (encodeFrame kind address tag index payload) = (byteOf index).toNat := ⟨rfl, rfl, rfl, rfl⟩

theorem fieldAt_frame (short : payload.length ≤ 512) : fieldAt 4 2 (encodeFrame kind address tag index payload) = payload.length := by
  have whole : encodeFrame kind address tag index payload = [byteOf kind, byteOf address, byteOf tag, byteOf index] ++ (be2 payload.length ++
      (payload ++ be2 (crc16 (frameBody kind address tag index payload)).toNat)) := by simp [encodeFrame, frameBody]
  rw [fieldAt, whole, slice_middle (o := 4) rfl (be2_length _), ofBytes_be2 (by omega)]

/-- A frame with its CRC is taken by the drive that it names (R172). -/
theorem decodeFrame_encodeFrame (kindByte : kind < 256) (addressByte : address < 256) (tagByte : tag < 256) (indexByte : index < 256)
    (short : payload.length ≤ 512) :
    decodeFrame address (encodeFrame kind address tag index payload) = .command (decodeGood kind tag index payload) := by
  obtain ⟨kindAt, addressAt, tagAt, indexAt⟩ := byteAt_frame kind address tag index payload
  rw [byteOf_toNat kindByte] at kindAt
  rw [byteOf_toNat addressByte] at addressAt
  rw [byteOf_toNat tagByte] at tagAt
  rw [byteOf_toNat indexByte] at indexAt
  have field := fieldAt_frame (kind := kind) (address := address) (tag := tag) (index := index) short
  have body : (encodeFrame kind address tag index payload).take (6 + payload.length) = frameBody kind address tag index payload :=
    List.take_left' frameBody_length
  have crc : slice (6 + payload.length) 2 (encodeFrame kind address tag index payload) = be2 (crc16 (frameBody kind address tag index payload)).toNat := by
    rw [slice, encodeFrame, List.drop_left' frameBody_length]
    rfl
  have content : slice 6 payload.length (encodeFrame kind address tag index payload) = payload := by
    have whole : encodeFrame kind address tag index payload = ([byteOf kind, byteOf address, byteOf tag, byteOf index] ++ be2 payload.length) ++
        (payload ++ be2 (crc16 (frameBody kind address tag index payload)).toNat) := by simp [encodeFrame, frameBody]
    rw [whole]
    exact slice_middle rfl rfl
  unfold decodeFrame
  rw [if_neg (by rw [encodeFrame_length]; omega), if_neg (by simp [addressAt]), field, if_neg (by omega), body, crc, kindAt, tagAt, indexAt, content,
    if_pos ⟨encodeFrame_length, rfl⟩]

theorem decodeFrame_other {other : Nat} (addressByte : address < 256) (apart : other ≠ address) :
    decodeFrame other (encodeFrame kind address tag index payload) = .ignored := by
  obtain ⟨-, addressAt, -⟩ := byteAt_frame kind address tag index payload
  rw [byteOf_toNat addressByte] at addressAt
  unfold decodeFrame
  rw [if_neg (by rw [encodeFrame_length]; omega), addressAt, if_pos apart.symm]

end Frame

end Sys2Proof.Machine

/-! Every frame decodes to the command that it encodes (section 11.2). -/

namespace Sys2Proof.Machine

set_option Elab.async false

/-! ### The fields of an order's payload -/

section Fields

variable {b c : Byte} {n m : Nat} {l : List Byte}

theorem byteAt_second : byteAt 1 (b :: c :: l) = c.toNat := rfl

theorem byteAt_third {d : Byte} : byteAt 2 (b :: c :: d :: l) = d.toNat := rfl

theorem fieldAt_word (small : n < 65536) : fieldAt 1 2 (b :: (be2 n ++ l)) = n := by
  rw [fieldAt, show b :: (be2 n ++ l) = [b] ++ (be2 n ++ l) from rfl, slice_middle (o := 1) rfl (be2_length n), ofBytes_be2 small]

theorem fieldAt_long (small : n < 4294967296) : fieldAt 1 4 (b :: (be4 n ++ l)) = n := by
  rw [fieldAt, show b :: (be4 n ++ l) = [b] ++ (be4 n ++ l) from rfl, slice_middle (o := 1) rfl (be4_length n), ofBytes_be4 small]

theorem fieldAt_count (small : m < 65536) : fieldAt 5 2 (b :: (be4 n ++ be2 m)) = m := by
  rw [fieldAt, show b :: (be4 n ++ be2 m) = (b :: be4 n) ++ (be2 m ++ []) by simp, slice_middle (o := 5) rfl (be2_length m), ofBytes_be2 small]

theorem word_roundTrip (w : Word16) (o : Nat) (a z : List Byte) (offset : a.length = o) :
    BitVec.ofNat 16 (fieldAt o 2 (a ++ (be2 w.toNat ++ z))) = w := by
  rw [fieldAt, slice_middle offset (be2_length _), ofBytes_be2 w.isLt, BitVec.ofNat_toNat, BitVec.setWidth_eq]

end Fields

theorem decodeSettings_encodeSettings {b : Byte} {i : SettingsImage} (wf : i.wf = true) : decodeSettings (b :: encodeSettings i) 1 = i := by
  simp only [SettingsImage.wf, byteOk, Bool.and_eq_true, decide_eq_true_eq] at wf
  obtain ⟨⟨⟨⟨⟨⟨⟨writeBack, readAhead⟩, retryLimit⟩, flushDelay⟩, standbyDelay⟩, ejectPulse⟩, brakeStep⟩, spinOnInsert⟩ := wf
  have mask := word_roundTrip i.noticeMask 9 (b :: [byteOf i.writeBack, byteOf i.readAhead, byteOf i.retryLimit, byteOf i.flushDelay,
    byteOf i.standbyDelay, byteOf i.ejectPulse, byteOf i.brakeStep, byteOf i.spinOnInsert]) [] rfl
  obtain ⟨_, _, _, _, _, _, _, _, _⟩ := i
  simp only [decodeSettings, SettingsImage.mk.injEq]
  exact ⟨byteOf_toNat writeBack, byteOf_toNat readAhead, byteOf_toNat retryLimit, byteOf_toNat flushDelay, byteOf_toNat standbyDelay,
    byteOf_toNat ejectPulse, byteOf_toNat brakeStep, byteOf_toNat spinOnInsert, mask⟩

/-- An order's payload as the decoder takes it. -/
def Decodes (c : Instr) (tag : Nat) (p : List Byte) : Prop := tag ≤ 15 ∧ p.length ≤ 512 ∧ decodeOrder tag p = c

theorem payloadLength_le {code n : Nat} (length : payloadLength code = some n) : n ≤ 11 := by
  unfold payloadLength at length
  split at length <;> simp only [Option.some.injEq, reduceCtorEq] at length <;> omega

theorem decodes_of {c : Instr} {tag code : Nat} {l : List Byte} (low : tag ≤ 15) (small : code < 256)
    (length : payloadLength code = some (l.length + 1)) (decoded : decodeOrderCode tag code (byteOf code :: l) = c) :
    Decodes c tag (byteOf code :: l) := by
  refine ⟨low, (payloadLength_le length).trans (by decide), ?_⟩
  have first : byteAt 0 (byteOf code :: l) = code := byteOf_toNat small
  rw [decodeOrder, first]
  exact (if_pos length).trans decoded

theorem loadTableRow_profile {tag id frames : Nat} (other : ¬ (2 ≤ id ∧ id ≤ 6)) : loadTableRow tag id frames = .loadTableProfile tag id frames := by
  unfold loadTableRow
  split <;> first | rfl | omega

theorem readTableRow_profile {tag id : Nat} (other : ¬ (2 ≤ id ∧ id ≤ 6)) : readTableRow tag id = .readTableProfile tag id := by
  unfold readTableRow
  split <;> first | rfl | omega

/-- An order decodes to itself, with every operand. -/
theorem decodes_encodeOrder {c : Instr} {tag : Nat} {p : List Byte} (wf : c.wf = true) (encoded : encodeOrder c = some (tag, p)) : Decodes c tag p := by
  cases c
  all_goals simp only [encodeOrder, Option.some.injEq, Prod.mk.injEq, reduceCtorEq] at encoded
  all_goals obtain ⟨rfl, rfl⟩ := encoded
  case start | stop | flush | calibrate | reset | ejectDiscard | removalAllow | readTableBias | readTableZone | readTableMonitor | readTableDefect |
      readTableLabel | abortAll => exact decodes_of (of_decide_eq_true wf) (by decide) rfl rfl
  all_goals simp only [Instr.wf, tagOk, byteOk, Bool.and_eq_true, decide_eq_true_eq, bne_iff_ne, Bool.not_eq_true', Bool.and_eq_false_iff,
    decide_eq_false_iff_not] at wf
  case eject t option =>
    obtain ⟨⟨low, small⟩, plain⟩ := wf
    refine decodes_of low (by decide) rfl ?_
    simp [decodeOrderCode, byteAt_second, byteOf_toNat small, plain]
  case removalPrevent t option =>
    obtain ⟨⟨low, small⟩, plain⟩ := wf
    refine decodes_of low (by decide) rfl ?_
    simp [decodeOrderCode, byteAt_second, byteOf_toNat small, plain]
  case seek t cylinder head =>
    obtain ⟨⟨low, cylinderWord⟩, headByte⟩ := wf
    refine decodes_of (l := be2 cylinder ++ [byteOf head]) low (by decide) rfl ?_
    have headAt : byteAt 3 (byteOf 0x20 :: (be2 cylinder ++ [byteOf head])) = head := byteOf_toNat headByte
    simp [decodeOrderCode, fieldAt_word cylinderWord, headAt]
  case read t first count =>
    obtain ⟨⟨low, firstLong⟩, countWord⟩ := wf
    refine decodes_of (l := be4 first ++ be2 count) low (by decide) rfl ?_
    simp [decodeOrderCode, fieldAt_long firstLong, fieldAt_count countWord]
  case write t first count =>
    obtain ⟨⟨low, firstLong⟩, countWord⟩ := wf
    refine decodes_of (l := be4 first ++ be2 count) low (by decide) rfl ?_
    simp [decodeOrderCode, fieldAt_long firstLong, fieldAt_count countWord]
  case reassign t block =>
    obtain ⟨low, blockLong⟩ := wf
    refine decodes_of (l := be4 block) low (by decide) rfl ?_
    have blockAt : fieldAt 1 4 (byteOf 0x24 :: be4 block) = block := by simpa using fieldAt_long (l := []) (b := byteOf 0x24) blockLong
    simp [decodeOrderCode, blockAt]
  case commitLabel t option =>
    obtain ⟨low, small⟩ := wf
    refine decodes_of low (by decide) rfl ?_
    simp [decodeOrderCode, byteAt_second, byteOf_toNat small]
  case loadTableProfile t id frames =>
    obtain ⟨⟨⟨low, idByte⟩, framesByte⟩, other⟩ := wf
    refine decodes_of low (by decide) rfl ?_
    simp [decodeOrderCode, byteAt_second, byteAt_third, byteOf_toNat idByte, byteOf_toNat framesByte,
      loadTableRow_profile (id := id) (by omega)]
  case loadTableBias t frames | loadTableZone t frames | loadTableMonitor t frames | loadTableDefect t frames | loadTableLabel t frames =>
    obtain ⟨low, framesByte⟩ := wf
    refine decodes_of low (by decide) rfl ?_
    simp only [decodeOrderCode, byteAt_second, byteAt_third, byteOf_toNat framesByte]
    rfl
  case readTableProfile t id =>
    obtain ⟨⟨low, idByte⟩, other⟩ := wf
    refine decodes_of low (by decide) rfl ?_
    simp [decodeOrderCode, byteAt_second, byteOf_toNat idByte, readTableRow_profile (id := id) (by omega)]
  case set t image =>
    obtain ⟨low, image⟩ := wf
    exact decodes_of low (by decide) rfl (congrArg (Instr.set t) (decodeSettings_encodeSettings image))
  case status t clear =>
    refine decodes_of (l := be2 clear.notices.toNat ++ be2 clear.faults.toNat ++ [clear.counters]) wf (by decide) rfl ?_
    have notices := word_roundTrip clear.notices 1 [byteOf 0x40] (be2 clear.faults.toNat ++ [clear.counters]) rfl
    have faults := word_roundTrip clear.faults 3 (byteOf 0x40 :: be2 clear.notices.toNat) [clear.counters] rfl
    obtain ⟨_, _, _⟩ := clear
    exact congrArg (Instr.status t) (by rw [ClearSet.mk.injEq]; exact ⟨notices, faults, rfl⟩)
  case abort t victim =>
    obtain ⟨low, small⟩ := wf
    refine decodes_of low (by decide) rfl ?_
    simp [decodeOrderCode, byteAt_second, byteOf_toNat (show victim < 256 by omega), show victim ≠ 255 by omega]

/-- Settles O52. -/
theorem framesDecodeToTheirCommands : Obligations.FramesDecodeToTheirCommands := by
  intro address other c frame small otherSmall apart wf encoded
  have framed : ∃ kind tag index payload, frame = encodeFrame kind address tag index payload ∧ kind < 256 ∧ tag < 256 ∧ index < 256 ∧
      payload.length ≤ 512 ∧ decodeGood kind tag index payload = c := by
    have orders : ∀ tp, encodeOrder c = some tp → frame = encodeFrame kindOrder address tp.1 0 tp.2 →
        ∃ kind tag index payload, frame = encodeFrame kind address tag index payload ∧ kind < 256 ∧ tag < 256 ∧ index < 256 ∧
          payload.length ≤ 512 ∧ decodeGood kind tag index payload = c := by
      rintro ⟨tag, p⟩ order rfl
      obtain ⟨low, short, decoded⟩ := decodes_encodeOrder wf order
      exact ⟨kindOrder, tag, 0, p, rfl, by decide, by omega, by decide, short, (if_neg (by decide)).trans ((if_pos rfl).trans ((if_pos low).trans decoded))⟩
    unfold encodeCommand at encoded
    split at encoded
    next => exact ⟨kindPoll, 0, 0, [], (Option.some.inj encoded).symm, by decide, by decide, by decide, by decide, if_pos rfl⟩
    next tag index payload =>
      simp only [Instr.wf, tagOk, byteOk, Bool.and_eq_true, decide_eq_true_eq] at wf
      obtain ⟨⟨low, indexByte⟩, short⟩ := wf
      exact ⟨kindDataOut, tag, index, payload, (Option.some.inj encoded).symm, by decide, by omega, indexByte, short,
        (if_neg (by decide)).trans ((if_neg (by decide)).trans ((if_pos rfl).trans (if_pos low)))⟩
    next =>
      obtain ⟨tp, order, rfl⟩ := Option.map_eq_some_iff.mp encoded
      exact orders tp order rfl
  obtain ⟨kind, tag, index, payload, rfl, kindByte, tagByte, indexByte, short, decoded⟩ := framed
  exact ⟨(decodeFrame_encodeFrame kindByte (by omega) tagByte indexByte short).trans (congrArg Heard.command decoded),
    decodeFrame_other (by omega) apart⟩

end Sys2Proof.Machine

/-! The block geometry and the cartridge label (R104 to R107, R116 to R122). -/

namespace Sys2Proof.Machine

set_option Elab.async false

/-! ### Blocks and their sectors -/

theorem zonesOk_cons {e : Nat} {z : Zone} {t : List Zone} (ok : zonesOk e (z :: t) = true) :
    17 ≤ z.spt ∧ z.spt ≤ 40 ∧ z.first < zoneEnd t e ∧ zonesOk e t = true := by
  simpa [zonesOk, and_assoc] using ok

theorem zoneEnd_le {e : Nat} : ∀ {l : List Zone}, zonesOk e l = true → zoneEnd l e ≤ e
  | [], _ => le_rfl
  | z :: t, ok => by
    obtain ⟨-, -, below, rest⟩ := zonesOk_cons ok
    exact below.le.trans (zoneEnd_le rest)

/-- A zone has at most 80 blocks to a cylinder (R104). -/
theorem zonesCapacity_le {e : Nat} : ∀ {l : List Zone}, zonesOk e l = true → zonesCapacity e l ≤ (e - zoneEnd l e) * 80
  | [], _ => by simp [zonesCapacity]
  | z :: t, ok => by
    obtain ⟨-, most, below, rest⟩ := zonesOk_cons ok
    have tail := zonesCapacity_le rest
    have inside := zoneEnd_le rest
    have head : zoneBlocks z t e ≤ (zoneEnd t e - z.first) * 80 := by
      have := Nat.mul_le_mul_left ((zoneEnd t e - z.first) * 2) most
      unfold zoneBlocks
      omega
    show zoneBlocks z t e + zonesCapacity e t ≤ (e - z.first) * 80
    omega

/-- The place of a block in its zone. -/
def placeIn (z : Zone) (n : Nat) : Place := { cylinder := z.first + n / z.spt / 2, head := n / z.spt % 2, sector := n % z.spt }

theorem mapZones_cons (e : Nat) (z : Zone) (t : List Zone) (n : Nat) :
    mapZones e (z :: t) n = if n < zoneBlocks z t e then placeIn z n else mapZones e t (n - zoneBlocks z t e) := rfl

theorem placeIn_injective {z : Zone} {n m : Nat} (same : placeIn z n = placeIn z m) : n = m := by
  simp only [placeIn, Place.mk.injEq] at same
  obtain ⟨cylinder, head, sector⟩ := same
  have track : n / z.spt = m / z.spt := by omega
  rw [← Nat.div_add_mod n z.spt, ← Nat.div_add_mod m z.spt, track, sector]

theorem placeIn_cylinder {z : Zone} {t : List Zone} {e n : Nat} (inside : n < zoneBlocks z t e) : (placeIn z n).cylinder < zoneEnd t e := by
  have track : n / z.spt < (zoneEnd t e - z.first) * 2 := Nat.div_lt_of_lt_mul (by rw [Nat.mul_comm]; exact inside)
  show z.first + n / z.spt / 2 < zoneEnd t e
  generalize n / z.spt = k at track
  omega

/-- A block below the capacity lies on the data cylinders (R105). -/
theorem mapZones_inside {e : Nat} : ∀ {l : List Zone} {n : Nat}, zonesOk e l = true → n < zonesCapacity e l →
    zoneEnd l e ≤ (mapZones e l n).cylinder ∧ (mapZones e l n).cylinder < e ∧ (mapZones e l n).head ≤ 1 ∧ (mapZones e l n).sector < 40
  | [], _, _, below => absurd below (Nat.not_lt_zero _)
  | z :: t, n, ok, below => by
    obtain ⟨least, most, start, rest⟩ := zonesOk_cons ok
    have inside := zoneEnd_le rest
    rw [mapZones_cons]
    split
    next here =>
      have cylinder := placeIn_cylinder here
      have sector : n % z.spt < z.spt := Nat.mod_lt _ (by omega)
      refine ⟨Nat.le_add_right _ _, by omega, ?_, ?_⟩
      · show n / z.spt % 2 ≤ 1
        omega
      · show n % z.spt < 40
        omega
    next beyond =>
      have later : n - zoneBlocks z t e < zonesCapacity e t := by
        have : n < zoneBlocks z t e + zonesCapacity e t := below
        omega
      obtain ⟨above, rest⟩ := mapZones_inside rest later
      exact ⟨start.le.trans above, rest⟩

theorem mapZones_injective {e : Nat} : ∀ {l : List Zone} {n m : Nat}, zonesOk e l = true → n < zonesCapacity e l → m < zonesCapacity e l →
    mapZones e l n = mapZones e l m → n = m
  | [], _, _, _, below, _, _ => absurd below (Nat.not_lt_zero _)
  | z :: t, n, m, ok, belowN, belowM, same => by
    obtain ⟨-, -, -, rest⟩ := zonesOk_cons ok
    have belowN : n < zoneBlocks z t e + zonesCapacity e t := belowN
    have belowM : m < zoneBlocks z t e + zonesCapacity e t := belowM
    have apart : ∀ {x y : Nat}, x < zoneBlocks z t e → ¬ y < zoneBlocks z t e → y < zoneBlocks z t e + zonesCapacity e t →
        placeIn z x ≠ mapZones e t (y - zoneBlocks z t e) := by
      intro x y here beyond below place
      obtain ⟨above, -⟩ := mapZones_inside (n := y - zoneBlocks z t e) rest (by omega)
      have := placeIn_cylinder here
      rw [place] at this
      omega
    rw [mapZones_cons, mapZones_cons] at same
    split at same <;> split at same
    · exact placeIn_injective same
    next hereN beyondM => exact absurd same (apart hereN beyondM belowM)
    next beyondN hereM => exact absurd same.symm (apart hereM beyondN belowN)
    next beyondN beyondM =>
      have := mapZones_injective rest (by omega) (by omega) same
      omega

/-- A sound zone table, part by part. -/
theorem zoneTableOk_iff {t : ZoneTable} (ok : zoneTableOk t = true) :
    t.formatId < 65536 ∧ zoneEnd t.zones t.spareStart = 1 ∧ zonesOk t.spareStart t.zones = true ∧ t.spareStart ≤ 1199 ∧ 17 ≤ t.spareSpt ∧ t.spareSpt ≤ 40 := by
  simp only [zoneTableOk, Bool.and_eq_true, decide_eq_true_eq] at ok
  obtain ⟨⟨⟨⟨⟨⟨⟨format, -⟩, -⟩, first⟩, zones⟩, spare⟩, least⟩, most⟩ := ok
  refine ⟨format, ?_, zones, spare, least, most⟩
  cases found : t.zones with
  | nil => simp [found] at first
  | cons z rest => simpa [found, zoneEnd] using first

theorem capacityOf_le {t : ZoneTable} (ok : zoneTableOk t = true) : capacityOf t ≤ 95840 := by
  obtain ⟨-, start, zones, spare, -⟩ := zoneTableOk_iff ok
  have bound := zonesCapacity_le zones
  rw [start] at bound
  unfold capacityOf
  omega

theorem spareCountOf_le (t : ZoneTable) : spareCountOf t ≤ 255 := Nat.min_le_left _ _

/-- Settles O50. -/
theorem blocksHaveTheirOwnSectors : Obligations.BlocksHaveTheirOwnSectors := by
  intro t ok
  obtain ⟨-, start, zones, spare, least, -⟩ := zoneTableOk_iff ok
  refine ⟨capacityOf_le ok, ?_, spareCountOf_le t, fun n below => ⟨?_, fun m belowM same => mapZones_injective zones below belowM same⟩⟩
  · have tracks : 2 ≤ (1200 - t.spareStart) * 2 := by omega
    have sectors := Nat.mul_le_mul tracks least
    unfold spareCountOf
    omega
  · exact start ▸ mapZones_inside zones below

/-! ### The label's sectors -/

theorem padTo_length (n : Nat) (l : List Byte) : (padTo n l).length = n := by
  simp only [padTo, List.length_append, List.length_take, List.length_replicate]
  omega

theorem padTo_of_le {n : Nat} {l : List Byte} (fits : l.length ≤ n) : padTo n l = l ++ List.replicate (n - l.length) 0 := by
  rw [padTo, List.take_of_length_le fits]

theorem entryBytes_length (e : DefectEntry) : (entryBytes e).length = 4 := rfl

/-- An entry's bytes are read back. -/
theorem entriesOf_cons {e : DefectEntry} {n : Nat} {l : List Byte} (block : e.block < 16777216) (spare : e.spare < 256) :
    entriesOf (n + 1) (entryBytes e ++ l) = e :: entriesOf n l := by
  have blockAt : fieldAt 0 3 (entryBytes e ++ l) = e.block := by
    have read : slice 0 3 (entryBytes e ++ l) = be3 e.block := slice_middle (a := []) (c := byteOf e.spare :: l) rfl (be3_length _)
    rw [fieldAt, read, ofBytes_be3 block]
  have spareAt : byteAt 3 (entryBytes e ++ l) = e.spare := byteOf_toNat spare
  have rest : (entryBytes e ++ l).drop 4 = l := rfl
  rw [entriesOf, blockAt, spareAt, rest]

theorem entriesOf_flatMap {l : List DefectEntry} (small : ∀ e ∈ l, e.block < 16777216 ∧ e.spare < 256) (rest : List Byte) :
    entriesOf l.length (l.flatMap entryBytes ++ rest) = l := by
  induction l with
  | nil => rfl
  | cons e t ih =>
    obtain ⟨block, spare⟩ := small e (List.mem_cons_self ..)
    rw [List.flatMap_cons, List.append_assoc, List.length_cons, entriesOf_cons block spare, ih fun x mem => small x (List.mem_cons_of_mem e mem)]

theorem flatMap_entryBytes_length (l : List DefectEntry) : (l.flatMap entryBytes).length = 4 * l.length := by
  induction l with
  | nil => rfl
  | cons e t ih =>
    rw [List.flatMap_cons, List.length_append, ih, entryBytes_length, List.length_cons]
    omega

theorem entriesOf_slots {n : Nat} {l : List DefectEntry} (small : ∀ e ∈ l, e.block < 16777216 ∧ e.spare < 256) (fits : 4 * l.length ≤ n) :
    entriesOf l.length (slots n l) = l := by
  rw [slots, padTo_of_le (by rw [flatMap_entryBytes_length]; exact fits)]
  exact entriesOf_flatMap small _

/-- A record that its sector holds without loss (R116). -/
def RecordFits (r : CartridgeRecord) : Prop :=
  r.signature.length = 4 ∧ r.formatId < 65536 ∧ r.serial < 4294967296 ∧ r.name.length = 16 ∧ r.sequence < 65536 ∧ r.defectCount < 256

theorem recordBytes_length {r : CartridgeRecord} (fits : RecordFits r) : (recordBytes r).length = 29 := by
  obtain ⟨signature, -, -, name, -⟩ := fits
  simp [recordBytes, signature, name, be2, be4, be3]

theorem slice_record {r : CartridgeRecord} (fits : RecordFits r) (rest : List Byte) : slice 0 29 (recordBytes r ++ rest) = recordBytes r :=
  slice_middle (a := []) rfl (recordBytes_length fits)

/-- The byte in the middle of a text. -/
theorem byteAt_middle {a c : List Byte} {b : Byte} {o : Nat} (offset : a.length = o) : byteAt o (a ++ b :: c) = b.toNat := by
  subst offset
  simp [byteAt]

/-- A record is read back from the sector that holds it (R118). -/
theorem recordOf_recordBytes {r : CartridgeRecord} (fits : RecordFits r) (rest : List Byte) :
    recordOf (recordBytes r ++ (be2 r.checksum.toNat ++ rest)) = r := by
  obtain ⟨signature, format, serial, name, sequence, count⟩ := fits
  have field : ∀ (a b c : List Byte) {o n : Nat}, recordBytes r ++ (be2 r.checksum.toNat ++ rest) = a ++ (b ++ c) → a.length = o → b.length = n →
      slice o n (recordBytes r ++ (be2 r.checksum.toNat ++ rest)) = b := by
    intro a b c o n split offset width
    rw [split, slice_middle offset width]
  have signatureAt := field [] r.signature (be2 r.formatId ++ be4 r.serial ++ r.name ++ be2 r.sequence ++ [byteOf r.defectCount] ++ be2 r.checksum.toNat ++ rest)
    (by simp [recordBytes]) (o := 0) rfl signature
  have formatAt := field r.signature (be2 r.formatId) (be4 r.serial ++ r.name ++ be2 r.sequence ++ [byteOf r.defectCount] ++ be2 r.checksum.toNat ++ rest)
    (by simp [recordBytes]) signature (be2_length _)
  have serialAt := field (r.signature ++ be2 r.formatId) (be4 r.serial) (r.name ++ be2 r.sequence ++ [byteOf r.defectCount] ++ be2 r.checksum.toNat ++ rest)
    (by simp [recordBytes]) (o := 6) (by simp [signature, be2_length]) (be4_length _)
  have nameAt := field (r.signature ++ be2 r.formatId ++ be4 r.serial) r.name (be2 r.sequence ++ [byteOf r.defectCount] ++ be2 r.checksum.toNat ++ rest)
    (by simp [recordBytes]) (o := 10) (by simp [signature, be2_length, be4_length]) name
  have sequenceAt := field (r.signature ++ be2 r.formatId ++ be4 r.serial ++ r.name) (be2 r.sequence) ([byteOf r.defectCount] ++ be2 r.checksum.toNat ++ rest)
    (by simp [recordBytes]) (o := 26) (by simp [signature, name, be2_length, be4_length]) (be2_length _)
  have countAt : byteAt 28 (recordBytes r ++ (be2 r.checksum.toNat ++ rest)) = (byteOf r.defectCount).toNat := by
    have split : recordBytes r ++ (be2 r.checksum.toNat ++ rest) =
        (r.signature ++ be2 r.formatId ++ be4 r.serial ++ r.name ++ be2 r.sequence) ++ byteOf r.defectCount :: (be2 r.checksum.toNat ++ rest) := by
      simp [recordBytes]
    rw [split]
    exact byteAt_middle (by simp [signature, name, be2_length, be4_length])
  have checksumAt := field (recordBytes r) (be2 r.checksum.toNat) rest rfl (o := 29)
    (recordBytes_length ⟨signature, format, serial, name, sequence, count⟩) (be2_length _)
  simp only [recordOf, fieldAt, signatureAt, formatAt, serialAt, nameAt, sequenceAt, countAt, checksumAt, ofBytes_be2 format, ofBytes_be4 serial,
    ofBytes_be2 sequence, ofBytes_be2 r.checksum.isLt, byteOf_toNat count, BitVec.ofNat_toNat, BitVec.setWidth_eq]

/-! ### The label formed and decided (R118, R122) -/

theorem defectsOk_iff {capacity spares : Nat} {l : List DefectEntry} (ok : defectsOk capacity spares l = true) :
    l.length ≤ 128 ∧ ∀ e ∈ l, e.block < capacity ∧ e.spare < spares := by
  simp only [defectsOk, Bool.and_eq_true, decide_eq_true_eq, List.all_eq_true] at ok
  obtain ⟨⟨⟨length, -⟩, -⟩, inside⟩ := ok
  exact ⟨length, inside⟩

theorem labelRecord_checksum (t : Txe) :
    (labelRecord t).checksum = labelChecksum (recordBytes (labelRecord t)) (slots 512 (t.defects.take 64)) (slots 512 (t.defects.drop 64)) := by
  simp only [labelRecord, recordBytes]

theorem labelRecord_format (t : Txe) : (labelRecord t).formatId = t.zones.formatId := rfl

theorem labelRecord_count (t : Txe) : (labelRecord t).defectCount = t.defects.length := rfl

/-- The record that a label write forms fits its sector. -/
theorem labelRecord_fits {t : Txe} (zones : zoneTableOk t.zones = true) (named : ∀ r, t.record = some r → r.serial < 4294967296 ∧ r.name.length = 16)
    (count : t.defects.length ≤ 128) : RecordFits (labelRecord t) := by
  obtain ⟨format, -⟩ := zoneTableOk_iff zones
  unfold labelRecord
  cases found : t.record with
  | none => exact ⟨rfl, format, Nat.zero_lt_succ _, rfl, Nat.succ_lt_succ (Nat.zero_lt_succ _), by show t.defects.length < 256; omega⟩
  | some r =>
    obtain ⟨serial, name⟩ := named r found
    exact ⟨rfl, format, serial, name, Nat.mod_lt _ (by decide), by show t.defects.length < 256; omega⟩

/-- Sectors 1 and 2 hold the whole list. -/
theorem entriesOf_sectors {l : List DefectEntry} (small : ∀ e ∈ l, e.block < 16777216 ∧ e.spare < 256) (length : l.length ≤ 128) :
    entriesOf (min l.length 64) (slots 512 (l.take 64)) ++ entriesOf (l.length - 64) (slots 512 (l.drop 64)) = l := by
  have first := entriesOf_slots (n := 512) (l := l.take 64) (fun e mem => small e (List.mem_of_mem_take mem)) (by rw [List.length_take]; omega)
  have second := entriesOf_slots (n := 512) (l := l.drop 64) (fun e mem => small e (List.mem_of_mem_drop mem)) (by rw [List.length_drop]; omega)
  rw [List.length_take, Nat.min_comm] at first
  rw [List.length_drop] at second
  rw [first, second, List.take_append_drop]

/-- A sector 0 that holds a record, whatever follows it, is decided by the record, the sum and the list. -/
theorem decideLabel_valid {t : Txe} {r : CartridgeRecord} {s0 s1 s2 : List Byte} (record : recordOf s0 = r)
    (checksum : labelChecksum (slice 0 29 s0) s1 s2 = r.checksum) (format : r.formatId = t.zones.formatId) (count : r.defectCount ≤ 128)
    (list : entriesOf (min r.defectCount 64) s1 ++ entriesOf (r.defectCount - 64) s2 = t.defects) (ok : defectsOk t.capacity t.spareCount t.defects = true) :
    decideLabel t s0 s1 s2 = (.valid, some r, t.defects) := by
  have none : ¬ (128 < r.defectCount ∨ defectsOk t.capacity t.spareCount t.defects = false) := by
    simp only [ok, not_or, not_lt]
    exact ⟨count, nofun⟩
  unfold decideLabel
  simp only [record, checksum, format, list, ne_eq, not_true_eq_false, if_false, if_neg none]

/-- Settles O51. -/
theorem labelReadsBack : Obligations.LabelReadsBack := by
  intro t zones capacity spares named ok
  obtain ⟨count, inside⟩ := defectsOk_iff ok
  have fits := labelRecord_fits zones named count
  have length := recordBytes_length fits
  have sector : padTo 512 (recordBytes (labelRecord t) ++ be2 (labelRecord t).checksum.toNat) =
      recordBytes (labelRecord t) ++ (be2 (labelRecord t).checksum.toNat ++ List.replicate 481 0) := by
    rw [padTo_of_le (by simp [length, be2_length]), List.append_assoc, List.length_append, length, be2_length]
  have record := recordOf_recordBytes fits (List.replicate 481 0)
  have bounds : ∀ e ∈ t.defects, e.block < 16777216 ∧ e.spare < 256 := by
    intro e mem
    obtain ⟨block, spare⟩ := inside e mem
    have := capacityOf_le zones
    have := spareCountOf_le t.zones
    omega
  have signatureAt : slice 0 4 (recordBytes (labelRecord t) ++ (be2 (labelRecord t).checksum.toNat ++ List.replicate 481 0)) = signature :=
    congrArg CartridgeRecord.signature record
  refine ⟨rfl, ?_, ?_, ?_⟩
  · intro x mem
    simp only [labelSectors, List.mem_cons, List.not_mem_nil, or_false] at mem
    rcases mem with rfl | rfl | rfl <;> exact padTo_length _ _
  · show signatureStatus (padTo 512 _) = none
    rw [sector, signatureStatus, signatureAt]
    rfl
  · show decideLabel t (padTo 512 _) (slots 512 _) (slots 512 _) = _
    rw [sector]
    exact decideLabel_valid record (by rw [slice_record fits, ← labelRecord_checksum]) (labelRecord_format t) (by rw [labelRecord_count]; exact count)
      (by rw [labelRecord_count]; exact entriesOf_sectors bounds count) ok

end Sys2Proof.Machine

/-! The last frame of a LOAD_TABLE (R178): each table's image checked by its owner and taken whole or not at all. -/

namespace Sys2Proof.Machine

set_option Elab.async false

/-! ### The last frame -/

/-- The state in which a LOAD_TABLE's frame has been taken. -/
abbrev handed (payload : List Byte) (s : State) : State :=
  { s with
    lif := { s.lif with
      exchange := .noFrame, cable := [handAccept], expectedIndex := s.lif.expectedIndex + 1, loadImage := s.lif.loadImage ++ [payload] }
    sgc := { s.sgc with linkPort := .idle } }

section LastFrame

variable {tag id : Nat} {prev : List (List Byte)} {payload : List Byte} {s : State} (due : LastFrameDue tag id prev s)
  (length : imageLength id = some payload.length)
include due length

theorem dataOutAct_lastFrame : dataOutAct tag prev.length payload s = handOver id (handed payload s) := by
  obtain ⟨executing, index, -, -⟩ := due
  have write : fittingWrite tag prev.length payload.length s = none := by simp [fittingWrite, executing]
  have load : fittingLoad tag prev.length payload.length s = some (id, prev.length + 1) := by simp [fittingLoad, executing, length, index]
  have last : prev.length + 1 ≤ s.lif.expectedIndex + 1 := by rw [index]
  unfold dataOutAct
  simp only [write, load]
  exact if_pos last

/-- The report of a LOAD_TABLE (R178). -/
abbrev loadReport (tag id frames : Nat) (o : Outcome) (s : State) : Report :=
  { tag := tag, kind := .loadTable id frames, outcome := o, blocks := 0, detail := .table id, lifecycle := s.csq.lifecycle }

/-- The owner's answer to the image ends the order. -/
theorem next_lastFrame {o : Outcome} {u : State} (lif : u.lif = (handed payload s).lif) (answer : handOver id (handed payload s) = endOwned o u) :
    exec (.dataOutFrame tag prev.length payload) s = .next (finish (startFlushTimer (ended (loadReport tag id (prev.length + 1) o u) u))) := by
  have ⟨executing, _, _, queue⟩ := due
  have ends : dataOutAct tag prev.length payload s = send .orderEnded (ended (loadReport tag id (prev.length + 1) o u) u) := by
    rw [dataOutAct_lastFrame due length, answer, endOwned_live ((congrArg Lif.executing lif).trans executing) rfl]
    rfl
  exact next_of_settle (settle_of ends (drain_orderEnded ((congrArg Lif.orderQueue lif).trans queue) (drain_nil _ _)))

/-- An image turned away changes no table. -/
theorem load_refused {o : Outcome} (answer : handOver id (handed payload s) = endOwned o (handed payload s)) :
    Leads (.dataOutFrame tag prev.length payload) s fun t => LoadRefused tag id (prev.length + 1) o s t := by
  have ⟨_, _, _, queue⟩ := due
  refine leads_of (next_lastFrame due length rfl answer) ?_
  rw [startFlushTimer_eq]
  and_intros
  case refine_1.refine_2.refine_2.refine_1 => exact queue
  all_goals rfl

end LastFrame

/-! ### The images -/

theorem pointsOf_bytes {l : List Byte} {n o : Nat} (fits : o + 6 * n ≤ l.length) :
    ((pointsOf l o n).flatMap fun p => be4 p.1 ++ be2 p.2) = slice o (6 * n) l := by
  induction n generalizing o with
  | zero => simp [pointsOf, slice]
  | succ n ih =>
    have point : be4 (fieldAt o 4 l) ++ be2 (fieldAt (o + 4) 2 l) = slice o 6 l := by
      rw [be4_fieldAt (by omega), be2_fieldAt (by omega), slice_append_slice]
    have six : 6 * (n + 1) = 6 + 6 * n := by omega
    rw [pointsOf, List.flatMap_cons, ih (by omega), point, slice_append_slice, six]

/-- The velocity profile reads back as it came (R79). -/
theorem profileBytes_profileOf {l : List Byte} (length : l.length = 99) : profileBytes (profileOf l) = l := by
  have gains : [byteOf (byteAt 0 l), byteOf (byteAt 1 l), byteOf (byteAt 2 l)] = slice 0 3 l := by
    have split : [byteOf (byteAt 0 l), byteOf (byteAt 1 l), byteOf (byteAt 2 l)] =
      [byteOf (byteAt 0 l)] ++ [byteOf (byteAt 1 l)] ++ [byteOf (byteAt 2 l)] := rfl
    rw [split, byteOf_byteAt (by omega), byteOf_byteAt (by omega), byteOf_byteAt (by omega), slice_append_slice, slice_append_slice]
  show [byteOf (byteAt 0 l), byteOf (byteAt 1 l), byteOf (byteAt 2 l)] ++ (pointsOf l 3 16).flatMap (fun p => be4 p.1 ++ be2 p.2) = l
  rw [gains, pointsOf_bytes (by omega), slice_append_slice, slice_whole length]

theorem biasOfImage_eq {l : List Byte} (length : l.length = 8) : biasOfImage l = l.map fun b => b.toInt := by
  rw [biasOfImage, List.take_of_length_le length.le]
  rfl

theorem biasOk_image {l : List Byte} (length : l.length = 8) : biasOk (biasOfImage l) = true ↔ ∀ b ∈ l, (-32 : Int) ≤ b.toInt ∧ b.toInt ≤ 31 := by
  simp [biasOfImage_eq length, biasOk, length]

theorem monActionCode_of {n : Nat} {a : MonAction} (found : monActionOf n = some a) : monActionCode a = n := by
  unfold monActionOf at found
  split at found <;> first | (obtain rfl := Option.some.inj found; rfl) | exact nomatch found

theorem armedSetCode_of {n : Nat} {a : ArmedSet} (found : armedSetOf n = some a) : armedSetCode a = n := by
  unfold armedSetOf at found
  split at found <;> first | (obtain rfl := Option.some.inj found; rfl) | exact nomatch found

/-- A channel's limits read back as they came (R170). -/
theorem limitsBytes_of {l : List Byte} {x : Limits} (fits : 7 ≤ l.length) (found : limitsOf l = some x) : limitsBytes x = l.take 7 := by
  unfold limitsOf at found
  split at found
  next la ha ar low high armed =>
    split at found
    · obtain rfl := Option.some.inj found
      have split : ∀ a b c d e f g : Byte, [a, b, c, d, e, f, g] = [a] ++ [b] ++ [c] ++ [d] ++ [e] ++ [f] ++ [g] := fun _ _ _ _ _ _ _ => rfl
      show [byteOf (byteAt 0 l), byteOf (monActionCode la), byteOf (byteAt 2 l), byteOf (byteAt 3 l), byteOf (monActionCode ha), byteOf (byteAt 5 l),
        byteOf (armedSetCode ar)] = _
      rw [monActionCode_of low, monActionCode_of high, armedSetCode_of armed, split]
      rw [byteOf_byteAt (by omega), byteOf_byteAt (by omega), byteOf_byteAt (by omega), byteOf_byteAt (by omega), byteOf_byteAt (by omega),
        byteOf_byteAt (by omega), byteOf_byteAt (by omega)]
      rw [slice_append_slice, slice_append_slice, slice_append_slice, slice_append_slice, slice_append_slice, slice_append_slice]
      rfl
    · exact nomatch found
  next => exact nomatch found

theorem monitorOf_bytes {n : Nat} {l : List Byte} {t : List Limits} (fits : 7 * n ≤ l.length) (found : monitorOf l n = some t) :
    t.length = n ∧ t.flatMap limitsBytes = l.take (7 * n) := by
  induction n generalizing l t with
  | zero =>
    obtain rfl := Option.some.inj found
    simp
  | succ n ih =>
    unfold monitorOf at found
    split at found
    next x u head tail =>
      obtain rfl := Option.some.inj found
      obtain ⟨length, bytes⟩ := ih (by rw [List.length_drop]; omega) tail
      have seven : 7 * (n + 1) = 7 + 7 * n := by omega
      refine ⟨by rw [List.length_cons, length], ?_⟩
      rw [List.flatMap_cons, limitsBytes_of (by omega) head, bytes, seven, List.take_add]
    next => exact nomatch found

/-! ### The monitor's limits replaced -/

/-- A channel with new limits, its run cleared and its condition ended (R170). -/
abbrev renewed (l : Limits) (r : ChannelRecord) : ChannelRecord :=
  { r with limits := l, runSide := .neither, runCount := 0, inRange := 0, active := .neither }

theorem modChannel_modChannel (c : Channel) (f g : ChannelRecord → ChannelRecord) (s : State) :
    modChannel c f (modChannel c g s) = modChannel c (f ∘ g) s := by cases c <;> rfl

theorem spinGateCheck_unasked {s : State} (unasked : s.csq.lifecycle ≠ .stopped ∨ s.csq.spinUpRequest = false) : spinGateCheck s = s := by
  rcases unasked with elsewhere | unasked
  · exact if_neg fun ⟨here, _⟩ => elsewhere here
  · exact if_neg fun ⟨_, asked, _⟩ => nomatch unasked ▸ asked

/-- The state with the write hold's wait at a value. -/
abbrev holdingAt (h : Option Nat) (s : State) : State := { s with txe := { s.txe with holdTimer := h } }

theorem endCondition_quiet {c : Channel} {s : State} (unasked : s.csq.lifecycle ≠ .stopped ∨ s.csq.spinUpRequest = false)
    (departure : s.sgc.heldDeparture = false) :
    ∃ h, endCondition c s = done (holdingAt h (modChannel c (fun r => { r with active := .neither, inRange := 0 }) s)) := by
  unfold endCondition
  dsimp only
  split
  · split
    · exact ⟨s.txe.holdTimer, rfl⟩
    · exact ⟨none, if_neg fun ⟨held, _⟩ => nomatch departure ▸ (show s.sgc.heldDeparture = true from held)⟩
  all_goals first
    | exact ⟨s.txe.holdTimer, congrArg done (spinGateCheck_unasked (by exact unasked))⟩
    | exact ⟨s.txe.holdTimer, rfl⟩

theorem replaceLimits_quiet {c : Channel} {l : Limits} {s : State} (unasked : s.csq.lifecycle ≠ .stopped ∨ s.csq.spinUpRequest = false)
    (departure : s.sgc.heldDeparture = false) : ∃ h, replaceLimits c l s = done (holdingAt h (modChannel c (renewed l) s)) := by
  unfold replaceLimits endIfActive
  split
  next rests =>
    refine ⟨s.txe.holdTimer, ?_⟩
    have idle : (channel s c).active = .neither := by
      rw [← rests]
      cases c <;> rfl
    have same : modChannel c (fun r => { r with limits := l }) (modChannel c (fun r => r.clearRun) s) = modChannel c (renewed l) s := by
      cases c <;> (simp only [channel] at idle; simp only [modChannel, State.modSmn, ChannelRecord.clearRun, renewed, idle])
    exact congrArg done same
  next =>
    obtain ⟨h, ended⟩ := endCondition_quiet (c := c) (s := modChannel c (fun r => r.clearRun) s) (by exact unasked) (by exact departure)
    rw [ended]
    exact ⟨h, by cases c <;> rfl⟩

/-- The state with every channel's limits replaced. -/
abbrev limitsLoaded (h : Option Nat) (t : List Limits) (s : State) : State :=
  { s with
    txe := { s.txe with holdTimer := h }
    smn := { s.smn with
      v12 := renewed (limitsAt t 0) s.smn.v12, v5 := renewed (limitsAt t 1) s.smn.v5, temp := renewed (limitsAt t 2) s.smn.temp,
      ispin := renewed (limitsAt t 3) s.smn.ispin, iact := renewed (limitsAt t 4) s.smn.iact } }

/-- One channel after another. -/
theorem andThen_replaceLimits {a : Act} {c : Channel} {l : Limits} {u : State} (before : ∃ h, a = done (holdingAt h u))
    (unasked : u.csq.lifecycle ≠ .stopped ∨ u.csq.spinUpRequest = false) (departure : u.sgc.heldDeparture = false) :
    ∃ h, a.andThen (replaceLimits c l) = done (holdingAt h (modChannel c (renewed l) u)) := by
  obtain ⟨h, rfl⟩ := before
  exact replaceLimits_quiet (s := holdingAt h u) unasked departure

theorem loadMonitor_quiet {t : List Limits} {s : State} (unasked : s.csq.lifecycle ≠ .stopped ∨ s.csq.spinUpRequest = false)
    (departure : s.sgc.heldDeparture = false) : ∃ h, loadMonitor t s = done (limitsLoaded h t s) := by
  have first := replaceLimits_quiet (c := .v12) (l := limitsAt t 0) unasked departure
  have second := andThen_replaceLimits (c := .v5) (l := limitsAt t 1) first (by exact unasked) (by exact departure)
  have third := andThen_replaceLimits (c := .temp) (l := limitsAt t 2) second (by exact unasked) (by exact departure)
  have fourth := andThen_replaceLimits (c := .ispin) (l := limitsAt t 3) third (by exact unasked) (by exact departure)
  obtain ⟨h, fifth⟩ := andThen_replaceLimits (c := .iact) (l := limitsAt t 4) fourth (by exact unasked) (by exact departure)
  refine ⟨h, Eq.trans fifth ?_⟩
  simp only [modChannel, State.modSmn]

/-- The limits read from an image are the image. -/
theorem limitsLoaded_bytes {l : List Byte} {t : List Limits} {h : Option Nat} {s : State} (length : l.length = 35) (found : monitorOf l 5 = some t) :
    (channels.flatMap fun c => limitsBytes (channel (limitsLoaded h t s) c).limits) = l := by
  obtain ⟨five, bytes⟩ := monitorOf_bytes (by omega) found
  rw [List.take_of_length_le length.le] at bytes
  match t, five with
  | [a, b, c, d, e], _ => exact bytes

theorem loadLimits_ends {payload : List Byte} {t : List Limits} {s : State} (found : monitorOf payload 5 = some t)
    (unasked : s.csq.lifecycle ≠ .stopped ∨ s.csq.spinUpRequest = false) (departure : s.sgc.heldDeparture = false) :
    ∃ h, loadLimits payload s = ⟨limitsLoaded h t s, [.orderDone .done]⟩ := by
  obtain ⟨h, loaded⟩ := loadMonitor_quiet (t := t) unasked departure
  refine ⟨h, ?_⟩
  unfold loadLimits
  simp only [found, loaded, done_andThen]
  rfl

end Sys2Proof.Machine

/-! O47: the tables of a LOAD_TABLE, one after the other. -/

namespace Sys2Proof.Machine

set_option Elab.async false

/-! The image of one frame goes to the table's owner (R178). -/

section HandOver

variable {payload : List Byte} {s : State} (first : s.lif.loadImage = [])
include first

theorem image_handed : (handed payload s).lif.loadImage.headD [] = payload := by
  show (s.lif.loadImage ++ [payload]).headD [] = payload
  rw [first]
  rfl

theorem handOver_profile : handOver 1 (handed payload s) = loadProfile payload (handed payload s) :=
  congrArg (loadProfile · (handed payload s)) (image_handed first)

theorem handOver_bias : handOver 2 (handed payload s) = loadBias payload (handed payload s) :=
  congrArg (loadBias · (handed payload s)) (image_handed first)

theorem handOver_zones : handOver 3 (handed payload s) = loadZones payload (handed payload s) :=
  congrArg (loadZones · (handed payload s)) (image_handed first)

theorem handOver_limits : handOver 4 (handed payload s) = loadLimits payload (handed payload s) :=
  congrArg (loadLimits · (handed payload s)) (image_handed first)

theorem handOver_label : handOver 6 (handed payload s) = loadLabel payload (handed payload s) :=
  congrArg (loadLabel · (handed payload s)) (image_handed first)

end HandOver

section Owners

variable {tag : Nat} {payload : List Byte} {s : State}

theorem gate_kept {s : State} (safe : GateSafe s) : (s.txe.gate && gateAllowed s) = s.txe.gate := by
  cases shut : s.txe.gate with
  | false => rfl
  | true =>
    obtain ⟨mode, valid, permission, lock, protect, hold, lifecycle⟩ := safe shut
    simpa [gateAllowed, mode, valid, permission, lock, protect, hold] using lifecycle

/-- The monitor's limits are taken, and the order ends (R170). -/
theorem next_limits {t : List Limits} (due : LastFrameDue tag 4 [] s) (length : payload.length = 35) (found : monitorOf payload 5 = some t)
    (unasked : s.csq.lifecycle ≠ .stopped ∨ s.csq.spinUpRequest = false) (departure : s.sgc.heldDeparture = false) :
    ∃ h, exec (.dataOutFrame tag 0 payload) s = .next (finish (startFlushTimer
      (ended (loadReport tag 4 1 .done s) (limitsLoaded h t (handed payload s))))) := by
  obtain ⟨executing, -, image, queue⟩ := id due
  obtain ⟨h, loaded⟩ := loadLimits_ends (s := handed payload s) found (by exact unasked) (by exact departure)
  refine ⟨h, next_of_settle (settle_of (?_ : dataOutAct tag 0 payload s = ⟨limitsLoaded h t (handed payload s), [.orderDone .done]⟩) ?_)⟩
  · exact (dataOutAct_lastFrame due (congrArg some length.symm)).trans ((handOver_limits image).trans loaded)
  · exact drain_of (m := [.orderEnded]) (endOwned_live (by exact executing) rfl) (drain_orderEnded (by exact queue) (drain_nil _ _))

/-- The zone table replaced (R106). -/
abbrev rezoned (t : ZoneTable) (s : State) : State :=
  { s with
    txe := { s.txe with
      zones := t, capacity := capacityOf t, spareCount := spareCountOf t, labelStatus := .unread, record := none, defects := [], labelModified := false }
    sgc := { s.sgc with
      segments := s.sgc.segments.map emptied, flushWanted := false,
      recency := (List.range s.sgc.segments.length).foldl (fun r i => toBack i r) s.sgc.recency } }

theorem replaceZones_eq (t : ZoneTable) (s : State) : replaceZones t s = rezoned t s := freeAll_eq _

/-- The record with the serial number and the name of an image (R117). -/
abbrev relabelled (payload : List Byte) (s : State) : State :=
  { s with txe := { s.txe with
      record := some (namedRecord payload s.txe), labelModified := s.txe.labelModified || s.txe.labelStatus == .valid } }

theorem slice_name (length : payload.length = 20) : slice 4 16 payload = payload.drop 4 :=
  List.take_of_length_le (by rw [List.length_drop]; omega)

/-- The defect list replaced and every segment given up (R110). -/
abbrev relisted (l : List DefectEntry) (s : State) : State :=
  { s with
    txe := { s.txe with defects := l, labelModified := true }
    sgc := { s.sgc with
      segments := s.sgc.segments.map emptied, flushWanted := false,
      recency := (List.range s.sgc.segments.length).foldl (fun r i => toBack i r) s.sgc.recency } }

/-- The order of a LOAD_TABLE DEFECT with the slot. -/
abbrev listTaken (payload : List Byte) (s : State) : State :=
  takeJob (newJob .order .background .flush) ((setStage .inSlot (handed payload s)).modTxe fun t => { t with orderWaits := false })

variable {prev : List (List Byte)} {l : List DefectEntry}

theorem loadDefects_refused {o : Outcome} {s : State} (refused : defectLoadRefused s = some o) : loadDefects s = endOwned o s := by
  simp [loadDefects, refused]

theorem loadDefects_unsound {s : State} (passed : defectLoadRefused s = none) (unsound : defectImage s = none) :
    loadDefects s = endOwned .badParameter s := by
  simp [loadDefects, passed, unsound]

theorem loadDefectAct_sound {s : State} (passed : defectLoadRefused s = none) (sound : defectImage s = some l) :
    loadDefectAct s = endOrderJobOwned .done (relisted l s) := by
  simp only [loadDefectAct, passed, sound, freeAll_eq]
  rfl

theorem defectImage_sound {images : List (List Byte)} {s : State} (image : s.lif.loadImage = images) (list : defectsOf images = some l)
    (ok : defectsOk s.txe.capacity s.txe.spareCount l = true) : defectImage s = some l := by
  simp [defectImage, image, list, ok]

theorem defectImage_unsound {images : List (List Byte)} {s : State} (image : s.lif.loadImage = images)
    (bad : defectsOf images = none ∨ (defectsOf images = some l ∧ defectsOk s.txe.capacity s.txe.spareCount l = false)) :
    defectImage s = none := by
  rcases bad with list | ⟨list, ok⟩ <;> simp [defectImage, *]

theorem endOrderJobOwned_live {o : Outcome} {e : Executing} {s : State} (executing : s.lif.executing = some e) :
    endOrderJobOwned o s = endOrderJob o e.order.kind.ownDetail [] s := by
  simp [endOrderJobOwned, executing]

/-- The new list is taken with the slot, and the order ends (R110). -/
theorem next_list (due : LastFrameDue tag 5 prev s) (length : payload.length = 258) (passed : defectLoadRefused s = none)
    (list : defectsOf (prev ++ [payload]) = some l) (ok : defectsOk s.txe.capacity s.txe.spareCount l = true) (free : s.txe.job = none)
    (ready : s.csq.lifecycle = .ready) (cal : s.svc.cal.due = false) (departure : s.txe.departureWaits = false) :
    exec (.dataOutFrame tag prev.length payload) s = .next (finish (startFlushTimer
      (jobEnded { loadReport tag 5 (prev.length + 1) .done s with lifecycle := .ready } (relisted l (listTaken payload s))))) := by
  obtain ⟨executing, -, image, queue⟩ := id due
  have image : (handed payload s).lif.loadImage = prev ++ [payload] := by rw [← image]
  have sound : defectImage (handed payload s) = some l := defectImage_sound image list ok
  have slot : loadDefects (handed payload s) = loadDefectAct (listTaken payload s) := by
    have passes : defectLoadRefused (handed payload s) = none := passed
    have kind : orderKind (handed payload s) = some (.loadTable 5 (prev.length + 1)) := by simp [orderKind, executing]
    simp only [loadDefects, passes, sound, Option.isSome_some, if_true, requestSlot, free, takeOrderJob, kind]
  have taken : (listTaken payload s).lif.executing = some ⟨⟨tag, .loadTable 5 (prev.length + 1)⟩, false, .inSlot, 0⟩ := by
    show s.lif.executing.map _ = _
    rw [executing]
    rfl
  have act : dataOutAct tag prev.length payload s = endOrderJob .done (.table 5) [] (relisted l (listTaken payload s)) := by
    rw [dataOutAct_lastFrame due (congrArg some length.symm)]
    refine Eq.trans slot ((loadDefectAct_sound (by exact passed) (by exact sound)).trans ?_)
    exact endOrderJobOwned_live (s := relisted l (listTaken payload s)) taken
  exact next_of_settle (settle_endOrderJob act taken rfl ⟨queue, ready, cal, rfl, departure⟩ rfl)

/-! ### The obligation -/

theorem loadZones_allowed {s : State} (rests : s.csq.lifecycle = .empty ∨ (s.csq.lifecycle = .stopped ∧ dirtyCount s = 0 ∧ s.txe.labelModified = false)) :
    loadZones payload s =
      if zoneTableOk (zoneTableOf payload) then endOwned .done (replaceZones (zoneTableOf payload) s) else endOwned .badParameter s := by
  rcases rests with empty | ⟨stopped, clean, unmodified⟩
  · simp [loadZones, empty]
  · simp [loadZones, stopped, clean, unmodified]

end Owners

/-- Settles O47. -/
theorem tablesLoadWhole : Obligations.TablesLoadWhole := by
  intro tag payload prev limits l s
  refine ⟨fun due length => ⟨fun ok => ?profile, fun bad => ?profileBad⟩, fun due length => ⟨fun inside => ?bias, fun outside => ?biasBad⟩,
    fun due length => ⟨fun safe rests => ⟨fun ok => ?zones, fun bad => ?zonesBad⟩, fun stopped kept => ?zonesDirty, fun notEmpty notStopped => ?zonesLate⟩,
    fun due length => ⟨fun found unasked departure => ?limits, fun bad => ?limitsBad⟩,
    fun due short length => ⟨fun ready valid free clean => ⟨fun list ok job cal order departure op gate recovered => ?defects, fun bad => ?defectsBad⟩, ?defectsRefused⟩,
    fun due length => ⟨fun safe ready decided free => ?label, ?labelRefused⟩⟩
  case profile =>
    obtain ⟨-, -, image, queue⟩ := id due
    refine leads_of (next_lastFrame (u := { handed payload s with svc := { s.svc with profile := profileOf payload } }) due
      (congrArg some length.symm) rfl ((handOver_profile image).trans (if_pos ok))) ?_
    rw [startFlushTimer_eq]
    refine ⟨rfl, profileBytes_profileOf length, ⟨rfl, rfl, queue, rfl⟩, ?_⟩
    and_intros <;> rfl
  case profileBad =>
    obtain ⟨-, -, image, -⟩ := id due
    exact load_refused due (congrArg some length.symm) ((handOver_profile image).trans (if_neg (by simp [bad])))
  case bias =>
    obtain ⟨-, -, image, queue⟩ := id due
    refine leads_of (next_lastFrame (u := { handed payload s with svc := { s.svc with bias := biasOfImage payload } }) due
      (congrArg some length.symm) rfl ((handOver_bias image).trans (if_pos ((biasOk_image length).mpr inside)))) ?_
    rw [startFlushTimer_eq, biasOfImage_eq length]
    refine ⟨rfl, ⟨rfl, rfl, queue, rfl⟩, ?_⟩
    and_intros <;> rfl
  case biasBad =>
    obtain ⟨-, -, image, -⟩ := id due
    have bad : ¬ biasOk (biasOfImage payload) = true := by
      rw [biasOk_image length]
      rintro inside
      obtain ⟨b, mem, beyond⟩ := outside
      have := inside b mem
      omega
    exact load_refused due (congrArg some length.symm) ((handOver_bias image).trans (if_neg bad))
  case zones =>
    obtain ⟨-, -, image, queue⟩ := id due
    have taken : handOver 3 (handed payload s) = endOwned .done (rezoned (zoneTableOf payload) (handed payload s)) := by
      rw [handOver_zones image, loadZones_allowed (by exact rests), if_pos ok, replaceZones_eq]
    refine leads_of (next_lastFrame (u := rezoned (zoneTableOf payload) (handed payload s)) due (congrArg some length.symm) rfl taken) ?_
    rw [startFlushTimer_eq]
    refine ⟨?_, fun g mem => emptied_of_mem mem, ⟨rfl, rfl, queue, rfl⟩, ?_⟩
    · show ({ s.txe with zones := _, capacity := _, spareCount := _, labelStatus := _, record := _, defects := _, labelModified := _,
                         gate := s.txe.gate && gateAllowed s } : Txe) = _
      rw [gate_kept safe]
    · and_intros <;> rfl
  case zonesBad =>
    obtain ⟨-, -, image, -⟩ := id due
    refine load_refused due (congrArg some length.symm) ?_
    rw [handOver_zones image, loadZones_allowed (by exact rests), if_neg (by simp [bad])]
  case zonesDirty =>
    obtain ⟨-, -, image, -⟩ := id due
    exact load_refused due (congrArg some length.symm)
      ((handOver_zones image).trans ((if_neg fun ⟨_, away⟩ => away stopped).trans (if_pos ⟨stopped, kept⟩)))
  case zonesLate =>
    obtain ⟨-, -, image, -⟩ := id due
    exact load_refused due (congrArg some length.symm) ((handOver_zones image).trans (if_pos ⟨notEmpty, notStopped⟩))
  case limits =>
    obtain ⟨-, -, image, queue⟩ := id due
    obtain ⟨h, next⟩ := next_limits due length found unasked departure
    refine leads_of next ?_
    rw [startFlushTimer_eq]
    refine ⟨limitsLoaded_bytes (s := s) (h := h) length found, ?_, rfl, rfl, rfl, rfl, rfl, ⟨rfl, rfl, queue, rfl⟩, ?_⟩
    · intro c _
      cases c <;> rfl
    · and_intros <;> rfl
  case limitsBad =>
    obtain ⟨-, -, image, -⟩ := id due
    refine load_refused due (congrArg some length.symm) ((handOver_limits image).trans ?_)
    simp [loadLimits, bad]
  case defects =>
    obtain ⟨-, -, -, queue⟩ := id due
    refine leads_of (next_list due length (by simp [defectLoadRefused, ready, valid, free, clean]) list ok job ready cal departure) ?_
    rw [startFlushTimer_eq]
    refine ⟨rfl, rfl, valid, rfl, rfl, ?_, rfl, ⟨rfl, rfl, queue, ?_⟩, ?_⟩
    · intro g mem
      obtain ⟨x, among, rfl⟩ := List.mem_map.mp mem
      obtain ⟨valid, dirty, -⟩ := emptied_of_mem among
      exact ⟨valid, dirty, rfl⟩
    · show s.lif.reports ++ [{ loadReport tag 5 _ .done s with lifecycle := .ready }] = s.lif.reports ++ [{ loadReport tag 5 _ .done s with lifecycle := s.csq.lifecycle }]
      rw [ready]
    · and_intros <;> rfl
  case defectsBad =>
    obtain ⟨-, -, image, -⟩ := id due
    have passed : defectLoadRefused (handed payload s) = none := by
      show defectLoadRefused s = none
      simp [defectLoadRefused, ready, valid, free, clean]
    refine load_refused due (congrArg some length.symm) (loadDefects_unsound passed (defectImage_unsound (images := prev ++ [payload]) ?_ (by exact bad)))
    rw [← image]
  case defectsRefused =>
    have refused : ∀ {o : Outcome}, defectLoadRefused s = some o →
        Leads (.dataOutFrame tag prev.length payload) s fun t => LoadRefused tag 5 (prev.length + 1) o s t :=
      fun by_ => load_refused due (congrArg some length.symm) (loadDefects_refused (s := handed payload s) by_)
    refine ⟨fun empty => refused ?_, fun notEmpty notReady => refused ?_, fun ready invalid => refused ?_, fun ready valid shut => refused ?_,
      fun ready valid free dirty => refused ?_⟩ <;> simp [defectLoadRefused, *]
  case label =>
    obtain ⟨-, -, image, queue⟩ := id due
    have taken : handOver 6 (handed payload s) = endOwned .done (relabelled payload (handed payload s)) := by
      rw [handOver_label image]
      simp [loadLabel, ready, decided, free, State.modTxe]
    refine leads_of (next_lastFrame (u := relabelled payload (handed payload s)) due (congrArg some length.symm) rfl taken) ?_
    rw [startFlushTimer_eq]
    refine ⟨?_, ⟨rfl, rfl, queue, rfl⟩, ?_⟩
    · show ({ s.txe with record := some (namedRecord payload s.txe), labelModified := _, gate := s.txe.gate && gateAllowed s } : Txe) = _
      rw [gate_kept safe]
      cases found : s.txe.record <;> simp [namedRecord, found, slice_name length, Bool.beq_eq_decide_eq]
    · and_intros <;> rfl
  case labelRefused =>
    obtain ⟨-, -, image, -⟩ := id due
    have refused : ∀ {o : Outcome}, loadLabel payload (handed payload s) = endOwned o (handed payload s) →
        Leads (.dataOutFrame tag 0 payload) s fun t => LoadRefused tag 6 1 o s t :=
      fun by_ => load_refused due (congrArg some length.symm) ((handOver_label image).trans by_)
    refine ⟨fun empty => refused ?_, fun notEmpty notReady => refused ?_, fun ready unread => refused ?_, fun ready decided shut => refused ?_⟩ <;>
      simp [loadLabel, *]

end Sys2Proof.Machine

/-! What the drive offers to polls, and what the host's answer does (R146, R175, R178). -/

namespace Sys2Proof.Machine

set_option Elab.async false

/-! ### Polls -/

section Poll

variable {s : State}

/-- The state in which a frame has been sent. -/
abbrev offered (e : Exchange) (bytes : List Byte) (p : LinkPort) (s : State) : State :=
  { s with lif := { s.lif with exchange := e, cable := bytes }, sgc := { s.sgc with linkPort := p } }

theorem pollAct_report {r : Report} {rest : List Report} (reports : s.lif.reports = r :: rest) :
    pollAct s = offered .report (encodeFrame kindReport s.lif.driveAddress r.tag 0 (reportBytes r)) .idle s := by
  unfold pollAct
  simp only [reports]
  rfl

theorem pollAct_block {p n : Nat} (reports : s.lif.reports = []) (ready : readyBlock s = some (p, n)) :
    pollAct s = offered (.block p) (encodeFrame kindDataIn s.lif.driveAddress (executingTag s) p (blockBytes n s))
      (if s.sgc.mediaPort then .suspended else .active) s := by
  unfold pollAct
  simp only [reports, ready]
  rfl

theorem pollAct_image {f : List Byte} (reports : s.lif.reports = []) (ready : readyBlock s = none) (image : s.lif.readImage[s.lif.readIndex]? = some f) :
    pollAct s = offered .image (encodeFrame kindDataIn s.lif.driveAddress (executingTag s) s.lif.readIndex f) .idle s := by
  unfold pollAct
  simp only [reports, ready, image]
  rfl

theorem pollAct_idle (reports : s.lif.reports = []) (ready : readyBlock s = none) (image : s.lif.readImage = []) :
    pollAct s = offered .idle (encodeFrame kindIdle s.lif.driveAddress 0 0 []) .idle s := by
  unfold pollAct
  simp only [reports, ready, image, List.getElem?_nil]
  rfl

end Poll

/-! ### A block delivered -/

section Deliver

variable {tag first count p i m : Nat} {medium : Bool} {s : State}

/-- The order of a READ at its blocks. -/
abbrev reading (tag first count p : Nat) : Executing :=
  { order := { tag := tag, kind := .read first count }, remnant := false, stage := .inSlot, blocks := p }

/-- The state in which the host has taken a block. -/
abbrev blockTaken (tag first count p : Nat) (s : State) : State :=
  { s with lif := { s.lif with exchange := .noFrame, executing := some (reading tag first count p) }, sgc := { s.sgc with linkPort := .idle } }

/-- A segment given up, as the least recent (R142, R146). -/
abbrev windowGivenUp (i : Nat) (s : State) : State :=
  { s with sgc := { s.sgc with segments := s.sgc.segments.modify i freed, recency := toBack i s.sgc.recency } }

theorem handshakeAct_block (exchange : s.lif.exchange = .block p) :
    handshakeAct true s = deliver p ((linkRelease s).modLif fun l => { l with exchange := .noFrame }) := by
  simp only [handshakeAct, if_true, exchange]

variable (executing : s.lif.executing = some (reading tag first count p)) (exchange : s.lif.exchange = .block p)
include executing exchange

theorem handshakeAct_within (within : windowDelivered p first count = false) :
    handshakeAct true s = finishRead (blockTaken tag first count (p + 1) s) := by
  rw [handshakeAct_block exchange]
  simp only [deliver, linkRelease, State.modLif, State.modSgc, executing, within, setBlocks, Option.map_some]

theorem handshakeAct_over (over_ : windowDelivered p first count = true) (window : findWindow (windowBase (first + p)) s = some i) :
    handshakeAct true s = finishRead (windowGivenUp i (blockTaken tag first count (p + 1) s)) := by
  have window' : findWindow (windowBase (first + p)) (blockTaken tag first count (p + 1) s) = some i := window
  rw [handshakeAct_block exchange]
  simp only [deliver, linkRelease, State.modLif, State.modSgc, executing, over_, setBlocks, Option.map_some, window']
  rfl

end Deliver

section Finish

variable {tag first count p m : Nat} {medium : Bool} {s : State} (job : s.txe.job = some (orderJob (.read m medium [] none)))
  (executing : s.lif.executing = some (reading tag first count p))
include job executing

theorem finishRead_goesOn (more : p < count) : finishRead s = done s := by
  unfold finishRead
  simp only [jobWork_of job, transferRange_read executing rfl, blocksDone_of executing]
  exact if_neg (Nat.not_le.mpr more)

theorem finishRead_ends (last : count ≤ p) :
    finishRead s = endOrderJob (goodOutcome s) .noDetail (if medium then [.readAhead first count] else []) s := by
  unfold finishRead
  simp only [jobWork_of job, transferRange_read executing rfl, blocksDone_of executing]
  exact if_pos last

end Finish

/-! ### The read-ahead -/

theorem held_modify_at {i : Nat} {f : Segment → Segment} {s : State} (same : (f (segmentAt s i)).held = (segmentAt s i).held) :
    (s.sgc.segments.modify i f).map Segment.held = heldBlocks s := by
  refine List.ext_getElem (by simp) fun k hk _ => ?_
  have hk : k < s.sgc.segments.length := by simpa using hk
  by_cases here : i = k
  · subst here
    rw [segmentAt_eq_getElem hk] at same
    simp only [List.getElem_map, List.getElem_modify_eq]
    exact same
  · simp [here, Segment.held]

/-- The cache with other records and another order of recency. -/
abbrev withCache (l : List Segment) (r : List Nat) (s : State) : State := { s with sgc := { s.sgc with segments := l, recency := r } }

/-- The window of a block is held by no segment but `i`. -/
def Alone (i n : Nat) (s : State) : Prop :=
  ∀ j < s.sgc.segments.length, j ≠ i → (segmentAt s j).holdsWindow = true → (segmentAt s j).base ≠ windowBase n

theorem findWindow_alone {n i : Nat} {s : State} (alone : Alone i n s) (hi : i < s.sgc.segments.length) (base : (segmentAt s i).base = windowBase n) :
    findWindow (windowBase n) s = if (segmentAt s i).holdsWindow then some i else none := by
  split
  next holds =>
    refine List.findIdx?_eq_some_iff_getElem.mpr ⟨hi, by simp [← segmentAt_eq_getElem hi, holds, base], fun j before => ?_⟩
    have hj := before.trans hi
    have apart := alone j hj before.ne
    rw [segmentAt_eq_getElem hj] at apart
    simp only [Bool.and_eq_true, beq_iff_eq, not_and]
    exact fun same held => apart held same
  next none =>
    refine List.findIdx?_eq_none_iff.mpr fun g mem => ?_
    obtain ⟨j, hj, rfl⟩ := List.mem_iff_getElem.mp mem
    rw [← segmentAt_eq_getElem hj]
    by_cases here : j = i
    · subst here
      simp [none]
    · by_cases held : (segmentAt s j).holdsWindow = true
      · simp [alone j hj here held]
      · simp [held]

/-- The segment of the window just given up is asked for again: where it holds no block any more it is the first that is free (R142, R147). -/
theorem askSegment_again {n i : Nat} {l : List Nat} {s : State} (alone : Alone i n s) (hi : i < s.sgc.segments.length)
    (base : (segmentAt s i).base = windowBase n) (free : (segmentAt s i).attachment = .free)
    (contained : (segmentAt s i).valid = [] → (segmentAt s i).dirty = []) (stale : s.sgc.recency = l ++ [i]) :
    ∃ segments r, askSegment (windowBase n) .readAhead false s = (withCache segments r s, .given i) ∧ segments.map Segment.held = heldBlocks s ∧
      segmentAt (withCache segments r s) i = { segmentAt s i with attachment := .readAhead } := by
  have found := findWindow_alone alone hi base
  have again : windowBase (windowBase n) = windowBase n := by
    unfold windowBase
    omega
  unfold askSegment
  rw [again, found]
  by_cases empty : (segmentAt s i).valid = []
  · have gone : (segmentAt s i).holdsWindow = false := by simp [Segment.holdsWindow, empty, free]
    have first : candidate s = some i := by
      have least : freeCandidate s = some i := by
        unfold freeCandidate leastRecent
        rw [stale, List.reverse_concat]
        exact List.find?_cons_of_pos (by simp [Segment.isFree, empty, contained empty, free])
      simp [candidate, least]
    have same : ({ base := windowBase n, valid := [], dirty := [], attachment := .readAhead } : Segment) = { segmentAt s i with attachment := .readAhead } := by
      simp [base, empty, contained empty]
    simp only [gone, Bool.false_eq_true, if_false, first]
    refine ⟨_, _, rfl, held_modify_at (by rw [same]; rfl), ?_⟩
    exact (segmentAt_modify_same (s := s) rfl hi).trans same
  · have holds : (segmentAt s i).holdsWindow = true := by simp [Segment.holdsWindow, empty]
    simp only [holds, if_true]
    refine ⟨s.sgc.segments.modify i fun g => { g with attachment := .readAhead }, s.sgc.recency, ?_, held_modify fun _ => rfl, 
      segmentAt_modify_same (s := s) (f := fun g => { g with attachment := .readAhead }) rfl hi⟩
    rw [if_neg (by simp [free])]
    rfl

/-- The read-ahead goes on in the window just given up (R147). -/
theorem aheadWindow_fills {n i : Nat} {l : List Nat} {s : State} (alone : Alone i n s) (hi : i < s.sgc.segments.length)
    (base : (segmentAt s i).base = windowBase n) (free : (segmentAt s i).attachment = .free)
    (contained : (segmentAt s i).valid = [] → (segmentAt s i).dirty = [])
    (stale : s.sgc.recency = l ++ [i]) (inside : n < s.txe.capacity) (missing : n % 16 ∉ (segmentAt s i).valid) :
    ∃ segments r, aheadWindow (windowBase n) (n % 16) s = (withCache segments r s, .fill n) ∧ segments.map Segment.held = heldBlocks s ∧
      (segmentAt (withCache segments r s) i).attachment = .readAhead := by
  obtain ⟨segments, r, asked, held, given⟩ := askSegment_again alone hi base free contained stale
  have split : windowBase n + n % 16 = n := by
    unfold windowBase
    omega
  have offset : n % 16 ∈ (List.range 16).filter fun o => decide (n % 16 ≤ o) && decide (windowBase n + o < s.txe.capacity) := by
    simp [Nat.mod_lt, split, inside]
  have some_ : ((List.range 16).filter fun o => decide (n % 16 ≤ o) && decide (windowBase n + o < s.txe.capacity)).isEmpty = false := by
    rw [List.isEmpty_eq_false_iff]
    exact List.ne_nil_of_mem offset
  have missing' : n % 16 ∉ (segmentAt (withCache segments r s) i).valid := by
    rw [given]
    exact missing
  have next : (((List.range 16).filter fun o => decide (n % 16 ≤ o) && decide (windowBase n + o < s.txe.capacity)).find? fun o =>
      !(segmentAt (withCache segments r s) i).valid.contains o) = some (n % 16) := by
    rw [List.find?_filter, List.find?_range_eq_some]
    refine ⟨by simp [split, inside, missing'], by simp [Nat.mod_lt], fun j before => ?_⟩
    simp [Nat.not_le.mpr before]
  refine ⟨segments, r, ?_, held, by rw [given]⟩
  unfold aheadWindow
  simp only [some_, Bool.false_eq_true, if_false, asked, next, split]

/-- The job of a read-ahead at its block (R147). -/
abbrev aheadJob (n : Nat) (second : Option Nat) : Job := newJob .readAhead .background (.readAhead (windowBase n) (n % 16 + 1) second)

/-- A READ that read from the medium is followed by a read-ahead, which begins with the next block (R147). -/
theorem startReadAhead_begins {first count n i : Nat} {l : List Nat} {s : State} (next : first + count = n) (some_ : 0 < count) (within : n % 16 ≠ 0)
    (alone : Alone i n s) (hi : i < s.sgc.segments.length) (base : (segmentAt s i).base = windowBase n) (free : (segmentAt s i).attachment = .free)
    (contained : (segmentAt s i).valid = [] → (segmentAt s i).dirty = []) (stale : s.sgc.recency = l ++ [i]) (inside : n < s.txe.capacity)
    (missing : n % 16 ∉ (segmentAt s i).valid) (noJob : s.txe.job = none) (ready : s.csq.lifecycle = .ready)
    (on : s.lif.settings.readAhead = true) (order : s.txe.orderWaits = false) (departure : s.txe.departureWaits = false)
    (due : s.svc.cal.due = false) (idle : s.svc.cal.stage = .idle) :
    ∃ segments r second v p m, segments.map Segment.held = heldBlocks s ∧ (segmentAt (withCache segments r s) i).attachment = .readAhead ∧
      p ≠ .transferring ∧ v.cal = s.svc.cal ∧
      startReadAhead first count s =
        ⟨opBegun (freshOp (.block n) .read (mapBlock s.txe n)) p v (takeJob (aheadJob n second) (withCache segments r s)), m⟩ ∧
      ∀ g ∈ m, handle g (opBegun (freshOp (.block n) .read (mapBlock s.txe n)) p v (takeJob (aheadJob n second) (withCache segments r s))) =
        done (opBegun (freshOp (.block n) .read (mapBlock s.txe n)) p v (takeJob (aheadJob n second) (withCache segments r s))) := by
  have last : windowBase (first + count - 1) = windowBase n := by
    unfold windowBase
    omega
  have offset : (first + count - 1) % 16 + 1 = n % 16 := by omega
  have begun : ∀ second w, ∃ segments r v p m, segments.map Segment.held = heldBlocks s ∧
      (segmentAt (withCache segments r s) i).attachment = .readAhead ∧ p ≠ .transferring ∧ v.cal = s.svc.cal ∧
      aheadWork (windowBase n) (n % 16) second (takeJob (newJob .readAhead .background w) s) =
        ⟨opBegun (freshOp (.block n) .read (mapBlock s.txe n)) p v (takeJob (aheadJob n second) (withCache segments r s)), m⟩ ∧
      ∀ g ∈ m, handle g (opBegun (freshOp (.block n) .read (mapBlock s.txe n)) p v (takeJob (aheadJob n second) (withCache segments r s))) =
        done (opBegun (freshOp (.block n) .read (mapBlock s.txe n)) p v (takeJob (aheadJob n second) (withCache segments r s))) := by
    intro second w
    obtain ⟨segments, r, filled, held, attached⟩ := aheadWindow_fills (n := n) (i := i) (l := l) (s := takeJob (newJob .readAhead .background w) s)
      alone hi base free contained stale inside missing
    obtain ⟨v, p, m, phase, cal, begins, ignored⟩ := (positioned_beginMapped (.block n) .read
      (s := takeJob (aheadJob n second) (withCache segments r s)) idle).begun
    refine ⟨segments, r, v, p, m, held, attached, phase, cal, ?_, ignored⟩
    unfold aheadWork
    rw [filled]
    exact begins
  unfold startReadAhead
  rw [if_pos ⟨by simp [noJob], ready, on, order, departure, some_⟩]
  dsimp only
  rw [last, offset]
  obtain ⟨segments, r, v, p, m, held, attached, phase, cal, begins, ignored⟩ := begun _ _
  refine ⟨segments, r, _, v, p, m, held, attached, phase, cal, ?_, ignored⟩
  rw [andThen_of begins (yieldIfDue_of_not_due ((congrArg Calibration.due cal).trans due)), List.append_nil]

end Sys2Proof.Machine

/-! O29: polls and the host's answers to what they offer. -/

namespace Sys2Proof.Machine

set_option Elab.async false

/-- In a sound cache a window is held by one segment alone (R140). -/
theorem alone_of_sound {n i : Nat} {s : State} (sound : CacheSound s) (window : findWindow (windowBase n) s = some i) : Alone i n s := by
  obtain ⟨hi, base, holds⟩ := findWindow_some window
  obtain ⟨-, distinct, -⟩ := sound
  have distinct := List.pairwise_iff_getElem.mp distinct
  intro j hj other held
  rw [segmentAt_eq_getElem hj] at held ⊢
  rw [segmentAt_eq_getElem hi] at base holds
  rw [← base]
  rcases Nat.lt_or_gt_of_ne other with before | after
  · exact distinct j i hj hi before held holds
  · exact (distinct i j hi hj after holds held).symm

theorem freed_holdsWindow {g : Segment} (holds : (freed g).holdsWindow = true) : g.holdsWindow = true := by
  simp only [Segment.holdsWindow, bne_self_eq_false, Bool.or_false] at holds
  simp [Segment.holdsWindow, holds]

section Delivered

variable {tag first count p i m : Nat} {medium : Bool} {s : State}

/-- The report of a READ (R171). -/
abbrev readReport (tag first count : Nat) (o : Outcome) : Report :=
  { tag := tag, kind := .read first count, outcome := o, blocks := count, detail := .noDetail, lifecycle := .ready }

/-- The state in which a READ has ended with its last block delivered. -/
abbrev readOver (tag first count i : Nat) (s : State) : State :=
  jobEnded (readReport tag first count (goodOutcome s)) (windowGivenUp i (blockTaken tag first count count s))

/-- The segment of the window given up, in the state that a READ leaves. -/
theorem segmentAt_readOver_same (hi : i < s.sgc.segments.length) : segmentAt (readOver tag first count i s) i = freed (segmentAt s i) := by
  rw [segmentAt_map (s := windowGivenUp i s) (f := freed) rfl rfl, segmentAt_modify_same (s := s) (f := freed) rfl hi]

theorem segmentAt_readOver_other {k : Nat} (other : k ≠ i) : segmentAt (readOver tag first count i s) k = freed (segmentAt s k) := by
  rw [segmentAt_map (s := windowGivenUp i s) (f := freed) rfl rfl, segmentAt_modify_other (s := s) (f := freed) rfl other]

theorem heldBlocks_readOver : heldBlocks (readOver tag first count i s) = heldBlocks s :=
  (held_map (l := (windowGivenUp i s).sgc.segments) held_freed).trans (held_modify held_freed)

variable (executing : s.lif.executing = some (reading tag first count p)) (job : s.txe.job = some (orderJob (.read m medium [] none)))
  (window : findWindow (windowBase (first + p)) s = some i) (exchange : s.lif.exchange = .block p)
include executing job window exchange

theorem handshakeAct_lastBlock (last : p + 1 = count) (ready : s.csq.lifecycle = .ready) :
    handshakeAct true s = ⟨readOver tag first count i s,
      .slotFree :: .orderEnded :: ((if medium then [.readAhead first count] else []) ++ [.slotIdle])⟩ := by
  subst last
  have over_ : windowDelivered p first (p + 1) = true := by simp [windowDelivered]
  rw [handshakeAct_over executing exchange over_ window,
    finishRead_ends (tag := tag) (first := first) (p := p + 1) (s := windowGivenUp i (blockTaken tag first (p + 1) (p + 1) s)) (by exact job) rfl le_rfl,
    endOrderJob_live (e := reading tag first (p + 1) (p + 1)) rfl rfl]
  show Act.mk (jobEnded { readReport tag first (p + 1) (goodOutcome s) with lifecycle := s.csq.lifecycle } _) _ = _
  rw [ready]

/-- The last block ends a READ with no read-ahead (R146). -/
theorem next_lastBlock (last : p + 1 = count) (waits : NothingWaits s) (wanted : s.sgc.flushWanted = false)
    (none : medium = false ∨ s.lif.settings.readAhead = false) :
    exec (.hostHandshake true) s = .next (finish (startFlushTimer (readOver tag first count i s))) := by
  obtain ⟨queue, ready, due, order, departure⟩ := waits
  refine next_of_settle (settle_of (handshakeAct_lastBlock executing job window exchange last ready) (drain_slotFree due order departure
    (drain_orderEnded queue ?_)))
  rw [startFlushTimer_eq]
  rcases none with away | off
  · subst away
    exact drain_slotIdle wanted (drain_nil _ _)
  · have ignored : handle (.readAhead first count) { readOver tag first count i s with sgc := { (readOver tag first count i s).sgc with
        flushTimer := flushTimerFrom s.csq.lifecycle s.lif.settings s.sgc.flushTimer } } = done _ := if_neg (by simp [off])
    cases medium
    · exact drain_slotIdle wanted (drain_nil _ _)
    · exact drain_of (m := []) ignored (drain_slotIdle wanted (drain_nil _ _))

end Delivered

/-- The state after a READ, with the flush delay started. -/
abbrev readGone (tag first count i : Nat) (s : State) : State :=
  let t := readOver tag first count i s
  { t with sgc := { t.sgc with flushTimer := flushTimerFrom s.csq.lifecycle s.lif.settings s.sgc.flushTimer } }

theorem alone_readGone {tag first count i n : Nat} {s : State} (alone : Alone i n s) : Alone i n (readGone tag first count i s) := by
  intro j hj other held
  have there : segmentAt (readGone tag first count i s) j = freed (segmentAt s j) := segmentAt_readOver_other other
  rw [there] at held ⊢
  exact alone j (by simpa using hj) other (freed_holdsWindow held)

/-- The last block of a READ that read from the medium is followed by a read-ahead in the same window (R147). -/
theorem next_readAhead {tag first count p i m : Nat} {s : State} (executing : s.lif.executing = some (reading tag first count p))
    (job : s.txe.job = some (orderJob (.read m true [] none))) (window : findWindow (windowBase (first + p)) s = some i)
    (exchange : s.lif.exchange = .block p) (last : p + 1 = count) (waits : NothingWaits s) (sound : CacheSound s)
    (on : s.lif.settings.readAhead = true) (idle : s.svc.cal.stage = .idle) (within : (first + count) % 16 ≠ 0)
    (inside : first + count < s.txe.capacity) (missing : (first + count) % 16 ∉ (segmentAt s i).valid) :
    ∃ segments r second v ph, segments.map Segment.held = heldBlocks s ∧
      (segmentAt (withCache segments r (readGone tag first count i s)) i).attachment = .readAhead ∧ ph ≠ .transferring ∧
      exec (.hostHandshake true) s = .next (finish (opBegun (freshOp (.block (first + count)) .read (mapBlock s.txe (first + count))) ph v
        (takeJob (aheadJob (first + count) second) (withCache segments r (readGone tag first count i s))))) := by
  obtain ⟨queue, ready, due, order, departure⟩ := waits
  obtain ⟨hi, here, -⟩ := findWindow_some window
  have base : windowBase (first + p) = windowBase (first + count) := by
    unfold windowBase
    omega
  have given : segmentAt (readGone tag first count i s) i = freed (segmentAt s i) := segmentAt_readOver_same hi
  have contained : (segmentAt s i).valid = [] → (segmentAt s i).dirty = [] := by
    intro empty
    obtain ⟨-, -, -, -, valid⟩ := sound.1 _ (segmentAt_eq_getElem hi ▸ List.getElem_mem hi)
    exact List.eq_nil_iff_forall_not_mem.mpr fun o dirty => by simpa [empty] using valid o dirty
  have alone : Alone i (first + count) (readGone tag first count i s) := alone_readGone fun j hj other held =>
    base ▸ alone_of_sound sound window j hj other held
  obtain ⟨segments, r, second, v, ph, l, held, attached, phase, -, begins, ignored⟩ := startReadAhead_begins (s := readGone tag first count i s)
    (l := eraseNat i s.sgc.recency) rfl (by omega) within alone (by simpa using hi) (by rw [given]; exact here.trans base) (by rw [given])
    (by rw [given]; exact contained) rfl inside (by rw [given]; exact missing) rfl ready on order departure due idle
  refine ⟨segments, r, second, v, ph, held.trans heldBlocks_readOver, attached, phase,
    next_of_settle (settle_of (handshakeAct_lastBlock executing job window exchange last ready) (drain_slotFree due order departure
      (drain_orderEnded queue ?_)))⟩
  rw [startFlushTimer_eq]
  refine drain_of begins (drain_ignored fun g mem => ?_)
  rcases List.mem_append.mp mem with mem | mem
  · exact ignored g mem
  · obtain rfl := List.mem_singleton.mp mem
    exact requestBackground_of_job rfl

/-- Settles O29. -/
theorem pollsOfferFrames : Obligations.PollsOfferFrames := by
  intro r rest tag first count p i m medium f s
  refine ⟨fun reports => ⟨?reportOffered, fun exchange => ?reportTaken⟩, fun reports executing image => ?idle, rfl,
    fun executing job noEnd window hi => ⟨fun reports more valid => ?blockOffered, fun exchange more within => ?within,
      fun exchange more edge => ?edge, fun exchange last waits sound on fromMedium idle within inside missing => ?ahead,
      fun exchange last waits wanted off => ?last⟩,
    fun executing => ⟨fun reports image => ?imageOffered, fun exchange more => ?imageTaken, fun exchange last queue => ?imageOver⟩⟩
  case reportOffered =>
    refine leads_of (next_of_done (congrArg done (pollAct_report reports))) ?_
    and_intros <;> rfl
  case reportTaken =>
    have act : handshakeAct true s = done { s with lif := { s.lif with reports := rest, exchange := .noFrame }, sgc := { s.sgc with linkPort := .idle } } := by
      simp only [handshakeAct, if_true, exchange, linkRelease, State.modLif, State.modSgc, reports, List.tail_cons]
    exact next_of_done act
  case idle =>
    have ready : readyBlock s = none := by simp [readyBlock, executing]
    refine leads_of (next_of_done (congrArg done (pollAct_idle reports ready image))) ?_
    and_intros <;> rfl
  case blockOffered =>
    have ready : readyBlock s = some (p, first + p) := by
      simp [readyBlock, executing, jobWork_of job, more, blockValid, window, valid]
    have bytes : blockBytes (first + p) s = readBytes s.sgc.buffer (8192 * i + 512 * ((first + p) % 16)) 512 := by
      simp only [blockBytes, window]
      rfl
    have tag_ : executingTag s = tag := by simp [executingTag, executing]
    refine leads_of (next_of_done (congrArg done (pollAct_block reports ready))) ?_
    rw [bytes, tag_]
    and_intros <;> rfl
  case within =>
    have inWindow : windowDelivered p first count = false := by simp [windowDelivered, within, more]
    exact next_of_done ((handshakeAct_within executing exchange inWindow).trans (finishRead_goesOn (by exact job) rfl more))
  case edge =>
    have done_ : windowDelivered p first count = true := by simp [windowDelivered, edge]
    refine leads_of (next_of_done ((handshakeAct_over executing exchange done_ window).trans (finishRead_goesOn (by exact job) rfl more))) ?_
    refine ⟨rfl, segmentAt_modify_same (s := s) (f := freed) rfl hi, fun k other => segmentAt_modify_other (s := s) (f := freed) rfl other, rfl, rfl, rfl, ?_⟩
    and_intros <;> rfl
  case ahead =>
    subst fromMedium
    obtain ⟨segments, r, second, v, ph, held, attached, phase, next⟩ :=
      next_readAhead executing job window exchange last waits sound on idle within inside missing
    refine leads_of next ⟨rfl, rfl, rfl, rfl, worksOn_fresh rfl phase, attached, held, rfl, ?_⟩
    and_intros <;> rfl
  case last =>
    refine leads_of (next_lastBlock executing job window exchange last waits wanted off) ?_
    rw [startFlushTimer_eq]
    refine ⟨rfl, rfl, rfl, rfl, rfl, congrArg Segment.attachment (segmentAt_readOver_same (tag := tag) (first := first) (count := count) hi), heldBlocks_readOver, rfl, ?_⟩
    and_intros <;> rfl
  case imageOffered =>
    have ready : readyBlock s = none := by simp [readyBlock, executing]
    have tag_ : executingTag s = tag := by simp [executingTag, executing]
    refine leads_of (next_of_done (congrArg done (pollAct_image reports ready image))) ?_
    rw [tag_]
    and_intros <;> rfl
  case imageTaken =>
    have act : handshakeAct true s = imageTaken ((linkRelease s).modLif fun l => { l with exchange := .noFrame }) := by
      simp only [handshakeAct, if_true, exchange]
    exact next_of_done (act.trans (if_neg (Nat.not_le.mpr more)))
  case imageOver =>
    have act : handshakeAct true s = imageTaken ((linkRelease s).modLif fun l => { l with exchange := .noFrame }) := by
      simp only [handshakeAct, if_true, exchange]
    have ends := act.trans ((if_pos last.symm.le).trans (endOwned_live (by exact executing) rfl))
    refine leads_of (next_of_settle (settle_of ends (drain_orderEnded (by exact queue) (drain_nil _ _)))) ?_
    rw [startFlushTimer_eq]
    and_intros <;> rfl

end Sys2Proof.Machine

/-! A WRITE's data frames: a block placed, a window completed, and a frame cut off by its CRC (R149 to R151, R153, R174). -/

namespace Sys2Proof.Machine

set_option Elab.async false

/-! ### The frame and its place -/

/-- The order of a WRITE at its frames. -/
abbrev writing (tag first count blocks : Nat) : Executing :=
  { order := { tag := tag, kind := .write first count }, remnant := false, stage := .inSlot, blocks := blocks }

section Frame

variable {tag first count index i n blocks : Nat} {payload : List Byte} {s : State}

theorem fittingWrite_fits (executing : s.lif.executing = some (writing tag first count blocks)) (expected : s.lif.expectedIndex = index)
    (more : index < count) : fittingWrite tag index 512 s = some first := by
  simp [fittingWrite, executing, expected, more]

theorem askPlace_held (window : findWindow (windowBase n) s = some i) (attached : (segmentAt s i).attachment = .order) :
    askPlace n s = (done s, some i) := by
  have asked : askSegment n .order false s = (s, .given i) := by simp [askSegment, window, attached]
  simp [askPlace, asked]

/-- A frame that fits and has its place is placed (R149). -/
theorem dataOutAct_places (executing : s.lif.executing = some (writing tag first count blocks)) (expected : s.lif.expectedIndex = index)
    (more : index < count) (length : payload.length = 512) (window : findWindow (windowBase (first + index)) s = some i)
    (attached : (segmentAt s i).attachment = .order) :
    dataOutAct tag index payload s = placeBlock i (first + index) payload (answered handAccept s) := by
  have fits : fittingWrite tag index payload.length s = some first := length ▸ fittingWrite_fits executing expected more
  have slot : executingInSlot s = true := by simp [executingInSlot, executing]
  unfold dataOutAct
  simp only [fits, writeFrame, slot, if_true, askPlace_held window attached]
  rfl

/-- The state in which a frame cut off by its CRC has left its bytes (R174). -/
abbrev blockTorn (i n : Nat) (payload : List Byte) (s : State) : State :=
  { s with
    lif := { s.lif with crcDiscards := min 255 (s.lif.crcDiscards + 1) }
    sgc := { s.sgc with
      segments := s.sgc.segments.modify i (dropped n), flushWanted := stillWanted (s.sgc.segments.modify i (dropped n)) s.sgc.flushWanted
      buffer := writeBytes s.sgc.buffer (8192 * i + 512 * (n % 16)) payload } }

theorem partialAct_tears (executing : s.lif.executing = some (writing tag first count blocks)) (expected : s.lif.expectedIndex = index)
    (more : index < count) (some_ : payload ≠ []) (window : findWindow (windowBase (first + index)) s = some i)
    (attached : (segmentAt s i).attachment = .order) :
    partialAct (.dataOut tag index 512 payload) s = done (dropBlock i (first + index) (storeBlock i (first + index) payload s)) := by
  have slot : executingInSlot s = true := by simp [executingInSlot, executing]
  simp only [partialAct, fittingWrite_fits executing expected more, slot, if_true, askPlace_held window attached, done_andThen, some_, if_false]

theorem badFrameAct_tears (executing : s.lif.executing = some (writing tag first count blocks)) (expected : s.lif.expectedIndex = index)
    (more : index < count) (some_ : payload ≠ []) (short : payload.length ≤ 512) (window : findWindow (windowBase (first + index)) s = some i)
    (attached : (segmentAt s i).attachment = .order) :
    badFrameAct (.dataOut tag index 512 payload) s = done (blockTorn i (first + index) payload s) := by
  unfold badFrameAct
  rw [partialAct_tears (by exact executing) (by exact expected) more some_ (by exact window) (by exact attached), dropBlock_eq, storeBlock,
    List.take_of_length_le short]
  unfold blockTorn
  rw [← satAdd_eq]
  rfl

end Frame

/-! ### The records after a block is placed -/

section Placed

variable {i n first count : Nat} {payload : List Byte} {s : State}

/-- Flush wanted stays while a block other than the one taken out is dirty (R154). -/
theorem stillWanted_iff {wanted : Bool} :
    stillWanted (s.sgc.segments.modify i (dropped n)) wanted = true ↔ wanted = true ∧ DirtyBeside i (n % 16) s := by
  have clean : ((s.sgc.segments.modify i (dropped n)).map fun g => g.dirty.length).sum = 0 ↔ ∀ g ∈ s.sgc.segments.modify i (dropped n), g.dirty = [] :=
    dirtyCount_eq_zero_iff (s := withSegments (s.sgc.segments.modify i (dropped n)) s)
  have record : ∀ x (hx : x < s.sgc.segments.length), (s.sgc.segments.modify i (dropped n))[x]'(by simpa using hx) =
      if i = x then dropped n (segmentAt s x) else segmentAt s x := by
    intro x hx
    rw [List.getElem_modify, segmentAt_eq_getElem hx]
  have dirty : (∃ g ∈ s.sgc.segments.modify i (dropped n), g.dirty ≠ []) ↔ DirtyBeside i (n % 16) s := by
    constructor
    · rintro ⟨g, mem, dirty⟩
      obtain ⟨x, hx, rfl⟩ := List.mem_iff_getElem.mp mem
      have hx : x < s.sgc.segments.length := by simpa using hx
      rw [record x hx] at dirty
      obtain ⟨o, mem⟩ := List.exists_mem_of_ne_nil _ dirty
      split at mem
      next here =>
        obtain ⟨mem, other⟩ := mem_eraseNat.mp mem
        exact ⟨x, hx, o, mem, fun ⟨_, same⟩ => other same⟩
      next there => exact ⟨x, hx, o, mem, fun ⟨same, _⟩ => there same.symm⟩
    · rintro ⟨x, hx, o, mem, other⟩
      refine ⟨_, List.getElem_mem (by simpa using hx), ?_⟩
      rw [record x hx]
      split
      next here => exact List.ne_nil_of_mem (mem_eraseNat.mpr ⟨mem, fun same => other ⟨here.symm, same⟩⟩)
      next => exact List.ne_nil_of_mem mem
  rw [← dirty, stillWanted, Bool.and_eq_true, decide_eq_true_eq, Ne, clean]
  simp

/-- The state in which a block has been placed (R149, R150). -/
abbrev blockPlaced (i n : Nat) (payload : List Byte) (s : State) : State :=
  { s with
    lif := { s.lif with expectedIndex := s.lif.expectedIndex + 1 }
    sgc := { s.sgc with
      segments := s.sgc.segments.modify i (placedIn n), flushWanted := stillWanted (s.sgc.segments.modify i (dropped n)) s.sgc.flushWanted
      buffer := writeBytes s.sgc.buffer (8192 * i + 512 * (n % 16)) payload, recency := toFront i s.sgc.recency } }

theorem placed_eq (length : payload.length = 512) :
    ((makeRecent i (addDirty i n (dropBlock i n (storeBlock i n payload s)))).modLif fun l => { l with expectedIndex := l.expectedIndex + 1 }) =
      blockPlaced i n payload s := by
  have joined : (s.sgc.segments.modify i (dropped n)).modify i (fun g => { g with valid := insertNat (n % 16) g.valid, dirty := insertNat (n % 16) g.dirty }) =
      s.sgc.segments.modify i (placedIn n) := List.modify_modify_eq ..
  rw [dropBlock_eq, storeBlock, List.take_of_length_le length.le]
  unfold blockPlaced
  rw [← joined]
  rfl

theorem segmentAt_blockPlaced_same (hi : i < s.sgc.segments.length) : segmentAt (blockPlaced i n payload s) i = placedIn n (segmentAt s i) :=
  segmentAt_modify_same (s := s) (f := placedIn n) rfl hi

theorem segmentAt_blockPlaced_other {k : Nat} (other : k ≠ i) : segmentAt (blockPlaced i n payload s) k = segmentAt s k :=
  segmentAt_modify_other (s := s) (f := placedIn n) rfl other

/-- A block placed and counted, as an order counts that is not written through. -/
abbrev blockCounted (i n : Nat) (payload : List Byte) (e : Executing) (s : State) : State :=
  let t := blockPlaced i n payload s
  { t with lif := { t.lif with executing := some { e with blocks := s.lif.expectedIndex + 1 } } }

/-- A segment released. -/
abbrev released (i : Nat) (s : State) : State := withSegments (s.sgc.segments.modify i freed) s

section Count

variable {e : Executing} (length : payload.length = 512) (executing : s.lif.executing = some e) (kind : e.order.kind = .write first count)
include length executing kind

/-- A block that is not written through is counted, and the window that it completes is released (R149). -/
theorem placeBlock_counts (job : s.txe.job = some (orderJob (.write false []))) {t : State}
    (after : (if windowPlaced n first count (s.lif.expectedIndex + 1) then released i (blockCounted i n payload e s)
      else blockCounted i n payload e s) = t) :
    placeBlock i n payload s = if count ≤ s.lif.expectedIndex + 1 then endOrderJob (goodOutcome t) .noDetail [] t else done t := by
  subst after
  have work : jobWork (blockPlaced i n payload s) = some (.write false []) := jobWork_of job
  have counted : setBlocks (s.lif.expectedIndex + 1) (blockPlaced i n payload s) = blockCounted i n payload e s := setBlocks_of executing
  have range : transferRange (blockCounted i n payload e s) = (first, count) := transferRange_write rfl kind
  have filled : windowFilled i (blockCounted i n payload e s) = done (released i (blockCounted i n payload e s)) := by
    have free : windowFilled i (blockCounted i n payload e s) = done (attach .free i (blockCounted i n payload e s)) := by
      simp [windowFilled, job]
    exact free
  unfold placeBlock
  dsimp only
  rw [placed_eq length, work]
  simp only [Option.map_some, Option.some.injEq, Bool.false_eq_true, if_false, counted, range, filled, true_and]
  split
  · rw [done_andThen, transferRange_write (s := released i (blockCounted i n payload e s)) rfl kind]
  · rw [done_andThen, range]

/-- A block written through that completes its window begins the flush of its segment (R153). -/
theorem placeBlock_through (job : s.txe.job = some (orderJob (.write true []))) (full : windowPlaced n first count (s.lif.expectedIndex + 1) = true) :
    placeBlock i n payload s = beginSegmentFlush i none (blockPlaced i n payload s) := by
  have work : jobWork (blockPlaced i n payload s) = some (.write true []) := jobWork_of job
  have range : transferRange (blockPlaced i n payload s) = (first, count) := transferRange_write (by exact executing) kind
  have filled : windowFilled i (blockPlaced i n payload s) = beginSegmentFlush i none (blockPlaced i n payload s) := by
    simp [windowFilled, job]
  unfold placeBlock
  dsimp only
  rw [placed_eq length, work]
  simp only [Option.map_some, Option.some.injEq, Bool.true_eq_false, if_true, false_and, if_false, range, filled, full]
  exact congrArg (Act.mk _) (List.append_nil _)

end Count

theorem windowPlaced_iff {index : Nat} : windowPlaced (first + index) first count (index + 1) = true ↔ count ≤ index + 1 ∨ (first + index + 1) % 16 = 0 := by
  have edge : windowBase (first + index) + 16 ≤ first + (index + 1) ↔ (first + index + 1) % 16 = 0 := by
    unfold windowBase
    omega
  simp [windowPlaced, edge]

/-- The state in which the flush of the placed block's segment begins. -/
abbrev flushingPlaced (i n : Nat) (payload : List Byte) (s : State) : State :=
  let t := blockPlaced i n payload s
  withSegments ((s.sgc.segments.modify i (placedIn n)).modify i flushHeld)
    { t with txe := { t.txe with job := some { orderJob (.write true []) with flushing := some i } } }

theorem segmentAt_flushingPlaced (hi : i < s.sgc.segments.length) (attached : (segmentAt s i).attachment = .order) :
    segmentAt (flushingPlaced i n payload s) i = placedIn n (segmentAt s i) := by
  rw [segmentAt_modify_same (s := blockPlaced i n payload s) (f := flushHeld) rfl (by simpa using hi), segmentAt_blockPlaced_same hi]
  have held : (if (segmentAt s i).attachment = .order then Attachment.order else .flush) = (segmentAt s i).attachment := by rw [if_pos attached, attached]
  unfold flushHeld
  dsimp only
  rw [held, ite_self]

/-- The flush of a segment with one dirty block begins on that (R153). -/
theorem beginSegmentFlush_placed (job : s.txe.job = some (orderJob (.write true []))) (hi : i < s.sgc.segments.length)
    (base : (segmentAt s i).base = windowBase n) (attached : (segmentAt s i).attachment = .order) (clean : (segmentAt s i).dirty = []) :
    beginSegmentFlush i none (blockPlaced i n payload s) = beginMapped (.block n) .write (flushingPlaced i n payload s) := by
  have begun : modJob (fun j => { j with flushing := some i, suspended := none }) (attachFlush i (blockPlaced i n payload s)) =
      flushingPlaced i n payload s := by
    rw [attachFlush_eq]
    simp [modJob, State.modTxe, job]
  have first : firstDirty i (flushingPlaced i n payload s) = some n := by
    have split : windowBase n + n % 16 = n := by
      unfold windowBase
      omega
    simp [firstDirty, segmentAt_flushingPlaced hi attached, clean, base, eraseNat, insertNat, split]
  unfold beginSegmentFlush
  rw [begun]
  simp only [first]

end Placed

/-- Settles O31. -/
theorem dataOutPlacesABlock : Obligations.DataOutPlacesABlock := by
  intro tag first count index i blocks through payload s executing job expected window attached hi
  obtain ⟨-, base, -⟩ := findWindow_some window
  have places : index < count → payload.length = 512 → dataOutAct tag index payload s = placeBlock i (first + index) payload (answered handAccept s) :=
    fun more length => dataOutAct_places executing expected more length window attached
  refine ⟨fun cached more length => ?more, fun cached last length waits wanted => ?last, fun written more full length clean idle => ?through,
    fun more some_ short => ?torn⟩
  case more =>
    subst cached expected
    have act := fun {t : State} after => (places (Nat.lt_of_succ_lt more) length).trans ((placeBlock_counts (t := t) (first := first) (count := count)
      (s := answered handAccept s) length (by exact executing) rfl (by exact job) after).trans (if_neg (Nat.not_le.mpr more)))
    have here : segmentAt (blockCounted i (first + s.lif.expectedIndex) payload (writing tag first count blocks) (answered handAccept s)) i =
      placedIn (first + s.lif.expectedIndex) (segmentAt s i) := segmentAt_blockPlaced_same (s := s) (payload := payload) hi
    have there : ∀ k, k ≠ i → segmentAt (blockCounted i (first + s.lif.expectedIndex) payload (writing tag first count blocks) (answered handAccept s)) k =
      segmentAt s k := fun k other => segmentAt_blockPlaced_other (s := s) (payload := payload) other
    by_cases edge : (first + s.lif.expectedIndex + 1) % 16 = 0
    · refine leads_of (next_of_done (act (if_pos (windowPlaced_iff.mpr (.inr edge))))) ?_
      refine ⟨rfl, rfl, rfl, ?_, stillWanted_iff, fun k other => ?_, rfl, rfl, ?_⟩
      · rw [if_pos edge]
        exact (segmentAt_modify_same (s := blockPlaced i (first + s.lif.expectedIndex) payload s) (f := freed) rfl (by simpa using hi)).trans
          (congrArg freed here)
      · exact (segmentAt_modify_other (s := blockPlaced i (first + s.lif.expectedIndex) payload s) (f := freed) rfl other).trans (there k other)
      · and_intros <;> rfl
    · refine leads_of (next_of_done (act (if_neg fun full => (windowPlaced_iff.mp full).elim (Nat.not_le.mpr more) edge))) ?_
      refine ⟨rfl, rfl, rfl, ?_, stillWanted_iff, there, rfl, rfl, ?_⟩
      · rw [if_neg edge, ← attached]
        exact here
      · and_intros <;> rfl
  case last =>
    subst cached expected last
    have act := (places (Nat.lt_succ_self _) length).trans ((placeBlock_counts (first := first) (count := s.lif.expectedIndex + 1)
      (s := answered handAccept s) length (by exact executing) rfl (by exact job) (if_pos (windowPlaced_iff.mpr (.inl le_rfl)))).trans (if_pos le_rfl))
    have here : ∀ k, segmentAt (released i (blockPlaced i (first + s.lif.expectedIndex) payload s)) k =
        if k = i then freed (placedIn (first + s.lif.expectedIndex) (segmentAt s i)) else segmentAt s k := by
      intro k
      split
      next same =>
        subst same
        rw [segmentAt_modify_same (s := blockPlaced k (first + s.lif.expectedIndex) payload s) (f := freed) rfl (by simpa using hi),
          segmentAt_blockPlaced_same hi]
      next other =>
        rw [segmentAt_modify_other (s := blockPlaced i (first + s.lif.expectedIndex) payload s) (f := freed) rfl other, segmentAt_blockPlaced_other other]
    have every : ∀ k, segmentAt { s with sgc := { s.sgc with segments :=
        ((s.sgc.segments.modify i (placedIn (first + s.lif.expectedIndex))).modify i freed).map freed } } k =
        freed (segmentAt (released i (blockPlaced i (first + s.lif.expectedIndex) payload s)) k) := fun k =>
      segmentAt_map (s := released i (blockPlaced i (first + s.lif.expectedIndex) payload s)) (f := freed) rfl rfl
    refine leads_of (next_of_settle (settle_endOrderJob act rfl rfl (by exact waits) (by simp [stillWanted, wanted]))) ?_
    rw [startFlushTimer_eq]
    refine ⟨rfl, rfl, rfl, rfl, ?_, fun k other => ?_, rfl, rfl, ?_⟩
    · exact (every i).trans (by rw [here, if_pos rfl])
    · exact (every k).trans (by rw [here, if_neg other])
    · and_intros <;> rfl
  case through =>
    subst written expected
    obtain ⟨v, p, l, phase, -, begins, ignored⟩ := (positioned_beginMapped (.block (first + s.lif.expectedIndex)) .write
      (s := flushingPlaced i (first + s.lif.expectedIndex) payload (answered handAccept s)) idle).begun
    have act := (places more length).trans ((placeBlock_through (first := first) (count := count) (s := answered handAccept s) length (by exact executing) rfl (by exact job)
      (windowPlaced_iff.mpr (full.imp (·.symm.le) id))).trans
      ((beginSegmentFlush_placed (s := answered handAccept s) (by exact job) (by exact hi) (by exact base) (by exact attached) (by exact clean)).trans begins))
    refine leads_of (next_of_settle (settle_of act (drain_ignored ignored))) ?_
    refine ⟨rfl, rfl, rfl, rfl, worksOn_fresh rfl phase, segmentAt_flushingPlaced (s := answered handAccept s) (by exact hi) (by exact attached),
      fun k other => ?_, rfl, rfl, rfl, rfl, ?_⟩
    · exact (segmentAt_modify_other (s := blockPlaced i (first + s.lif.expectedIndex) payload s) (f := flushHeld) rfl other).trans
        (segmentAt_blockPlaced_other other)
    · and_intros <;> rfl
  case torn =>
    refine leads_of (next_of_done (badFrameAct_tears executing expected more some_ short window attached)) ?_
    have here : segmentAt (blockTorn i (first + index) payload s) i = dropped (first + index) (segmentAt s i) :=
      segmentAt_modify_same (s := s) (f := dropped _) rfl hi
    refine ⟨rfl, rfl, expected, rfl, congrArg Segment.valid here, congrArg Segment.dirty here, stillWanted_iff,
      fun k other => segmentAt_modify_other (s := s) (f := dropped _) rfl other, rfl, rfl, ?_⟩
    and_intros <;> rfl

end Sys2Proof.Machine

/-! The servo at a sample: the laws of the modes, and what a valid and a missed sample lead to (R51 to R58, R67 to R72, R80 to R87). -/

namespace Sys2Proof.Machine

set_option Elab.async false

/-! ### The laws on the measured record -/

/-- What a valid sample with error `e` makes of the record in which it has been measured. -/
def commanded (e : Int) (v : Svc) : Svc := (((v.transition e).law e).settle e).permit e

/-- A record commanded by the velocity law (R81). -/
abbrev velocityTaken (e : Int) (v : Svc) : Svc :=
  { (v.velocityLaw e) with mode := .seek, latestError := e, writePermission := false }

/-- A record commanded by the position law (R82, R83). -/
abbrev positionTaken (m : ServoMode) (e : Int) (v : Svc) : Svc := { (v.positionLaw e) with mode := m, latestError := e }

section Laws

variable {e : Int} {v : Svc}

theorem transition_to {m : ServoMode} (test : modeAfterTest v.mode e v.pos.v = m) : v.transition e =
    { v with
      latestError := e, mode := m, integrator := if m = .seek ∧ v.mode ≠ .seek then 0 else v.integrator
      settleCount := if m = v.mode then v.settleCount else 0
      seekStatus := if v.mode = .follow ∧ m ≠ .follow then .outstanding else v.seekStatus
      timeoutCount := if v.mode = .follow ∧ m ≠ .follow then 0 else v.timeoutCount } := by
  subst test
  rfl

theorem commanded_follow (mode : v.mode = .follow) (near : e.natAbs ≤ 24) :
    commanded e v = { positionTaken .follow e v with writePermission := true } := by
  have stays : modeAfterTest v.mode e v.pos.v = .follow := by simp [modeAfterTest, mode, show ¬ 256 < e.natAbs by omega, show ¬ 24 < e.natAbs by omega]
  simp [commanded, transition_to stays, Svc.law, Svc.settle, Svc.permit, mode, near, Svc.positionLaw, Svc.integrate, Svc.terms, Svc.setCommand, biasOf]

theorem commanded_drifts (mode : v.mode = .follow) (beyond : 24 < e.natAbs) (within : e.natAbs ≤ 256) :
    commanded e v = { positionTaken .settle e v with writePermission := false, settleCount := 0, seekStatus := .outstanding, timeoutCount := 0 } := by
  have falls : modeAfterTest v.mode e v.pos.v = .settle := by simp [modeAfterTest, mode, beyond, show ¬ 256 < e.natAbs by omega]
  have far : ¬ e.natAbs ≤ 16 := by omega
  simp [commanded, transition_to falls, Svc.law, Svc.settle, Svc.permit, mode, far, Svc.positionLaw, Svc.integrate, Svc.terms, Svc.setCommand, biasOf]

theorem commanded_falls (mode : v.mode = .follow) (beyond : 256 < e.natAbs) :
    commanded e v = { velocityTaken e v with integrator := 0, settleCount := 0, seekStatus := .outstanding, timeoutCount := 0 } := by
  have falls : modeAfterTest v.mode e v.pos.v = .seek := by simp [modeAfterTest, mode, beyond]
  simp [commanded, transition_to falls, Svc.law, Svc.settle, Svc.permit, mode, Svc.velocityLaw, Svc.setCommand, biasOf]

theorem commanded_seeks (mode : v.mode = .seek) (far : 64 < e.natAbs ∨ 32 < v.pos.v.natAbs) : commanded e v = velocityTaken e v := by
  have stays : modeAfterTest v.mode e v.pos.v = .seek := by
    simp only [modeAfterTest, mode]
    exact if_neg fun ⟨near, slow⟩ => by omega
  simp [commanded, transition_to stays, Svc.law, Svc.settle, Svc.permit, mode, Svc.velocityLaw, Svc.setCommand, biasOf]

theorem settle_counts {w : Svc} (mode : w.mode = .settle) (few : w.settleCount < 3) :
    w.settle e = { w with settleCount := if e.natAbs ≤ 16 ∧ w.saturated = false then w.settleCount + 1 else 0 } := by
  simp only [Svc.settle, mode, if_true, if_neg (show ¬ 4 ≤ w.settleCount + 1 by omega)]
  split <;> rfl

theorem settle_enters {w : Svc} (mode : w.mode = .settle) (near : e.natAbs ≤ 16) (unsaturated : w.saturated = false) (count : w.settleCount = 3) :
    w.settle e = { w with mode := .follow, settleCount := 0 } := by
  simp [Svc.settle, mode, near, unsaturated, count]

/-- The record in SETTLE before its settle count. -/
theorem lawful_settle (test : modeAfterTest v.mode e v.pos.v = .settle) (notFollow : v.mode ≠ .follow) :
    (v.transition e).law e = { positionTaken .settle e v with settleCount := if v.mode = .settle then v.settleCount else 0 } := by
  simp [transition_to test, Svc.law, notFollow, Svc.positionLaw, Svc.integrate, Svc.terms, Svc.setCommand, biasOf, eq_comm]

theorem commanded_arrives (mode : v.mode = .seek) (near : e.natAbs ≤ 64) (slow : v.pos.v.natAbs ≤ 32) :
    commanded e v = settled 0 e (positionTaken .settle e v) := by
  have enters : modeAfterTest v.mode e v.pos.v = .settle := by simp [modeAfterTest, mode, near, slow]
  have count : (if v.mode = .settle then v.settleCount else 0) = 0 := if_neg (by simp [mode])
  rw [commanded, lawful_settle enters (by simp [mode]), count, settle_counts rfl (Nat.zero_lt_succ _)]
  rfl

theorem commanded_settles (mode : v.mode = .settle) (within : e.natAbs ≤ 256) (counts : v.settleCount < 3) :
    commanded e v = settled v.settleCount e (positionTaken .settle e v) := by
  have stays : modeAfterTest v.mode e v.pos.v = .settle := by simp [modeAfterTest, mode, within]
  rw [commanded, lawful_settle stays (by simp [mode]), if_pos mode,
    settle_counts (w := { positionTaken .settle e v with settleCount := v.settleCount }) rfl counts]
  rfl

/-- The fourth settled sample in succession enters FOLLOW (R85). -/
theorem commanded_enters (mode : v.mode = .settle) (near : e.natAbs ≤ 16) (unsaturated : (v.positionLaw e).saturated = false)
    (count : v.settleCount = 3) : commanded e v = { positionTaken .follow e v with settleCount := 0, writePermission := true } := by
  have stays : modeAfterTest v.mode e v.pos.v = .settle := by simp [modeAfterTest, mode, show e.natAbs ≤ 256 by omega]
  rw [commanded, lawful_settle stays (by simp [mode]), if_pos mode,
    settle_enters (w := { positionTaken .settle e v with settleCount := v.settleCount }) rfl near unsaturated count]
  simp [Svc.permit, show e.natAbs ≤ 24 by omega]

theorem commanded_leaves (mode : v.mode = .settle) (beyond : 256 < e.natAbs) :
    commanded e v = { velocityTaken e v with integrator := 0, settleCount := 0 } := by
  have leaves : modeAfterTest v.mode e v.pos.v = .seek := by simp [modeAfterTest, mode, beyond]
  simp [commanded, transition_to leaves, Svc.law, Svc.settle, Svc.permit, mode, Svc.velocityLaw, Svc.setCommand, biasOf]

end Laws

/-! ### A valid sample -/

/-- The record in which a valid sample has been measured (R57). -/
abbrev measured (r : ServoRecord) (v : Svc) : Svc := { v with pos := v.pos.measure r }

section Valid

variable {r : ServoRecord} {e : Int} {s : State}

theorem servoSampleAct_valid (mode : s.svc.mode = .seek ∨ s.svc.mode = .settle ∨ s.svc.mode = .follow) (fresh : s.svc.pos.latestWedge ≠ some r.wedge)
    (valid : sampleValid s.svc.pos r = true) : servoSampleAct r s = validLogic { s with svc := measured r s.svc } := by
  have tracks : servoSampleAct r s = trackingSample r s := by
    unfold servoSampleAct
    rcases mode with mode | mode | mode <;> rw [mode] <;> exact if_neg fresh
  rw [tracks]
  exact if_pos valid

theorem validLogic_follow (error : targetPosition s.svc - s.svc.pos.p = e) (mode : s.svc.mode = .follow) :
    validLogic s = passGather { s with svc := commanded e s.svc } := by
  subst error
  exact if_pos mode

theorem validLogic_runs (error : targetPosition s.svc - s.svc.pos.p = e) (mode : s.svc.mode ≠ .follow) (after : (commanded e s.svc).mode ≠ .follow) :
    validLogic s = countTimeout { s with svc := commanded e s.svc } := by
  subst error
  exact (if_neg mode).trans (if_neg after)

theorem validLogic_enters (error : targetPosition s.svc - s.svc.pos.p = e) (mode : s.svc.mode ≠ .follow) (after : (commanded e s.svc).mode = .follow) :
    validLogic s = followEntered { s with svc := commanded e s.svc } := by
  subst error
  exact (if_neg mode).trans (if_pos after)

theorem passGather_idle (stage : s.svc.cal.stage ≠ .gathering) : passGather s = done s := if_neg stage

theorem countTimeout_runs (outstanding : s.svc.seekStatus = .outstanding) (mode : s.svc.mode = .seek ∨ s.svc.mode = .settle)
    (runs : s.svc.timeoutCount < 399) :
    countTimeout s = done { s with svc := { s.svc with timeoutCount := s.svc.timeoutCount + 1 } } :=
  (if_pos ⟨outstanding, mode⟩).trans (if_neg (by omega))

theorem countTimeout_rests (rests : s.svc.seekStatus ≠ .outstanding ∨ (s.svc.mode ≠ .seek ∧ s.svc.mode ≠ .settle)) : countTimeout s = done s :=
  if_neg (by tauto)

/-- A sample whose course asks for nothing, with no field in flight. -/
theorem next_sample {t : State} (act : servoSampleAct r s = done t) (idle : ∀ u, t.txe.op = some u → u.phase ≠ .transferring) :
    exec (.servoSample r) s = .next (finish t) := by
  refine next_of_done (a := (servoSampleAct r s).andThen mediaWatch) ?_
  rw [act, done_andThen, mediaWatch_idle idle]

end Valid

theorem positionTaken_measured (m : ServoMode) (r : ServoRecord) (e : Int) (v : Svc) : positionTaken m e (measured r v) =
    byPositionLaw m r e (sampleVelocity r v) (clamp (-8192) 8192 (v.integrator + e)) v := by
  simp only [Svc.positionLaw, Svc.integrate, Svc.terms, Svc.setCommand, biasOf, Position.measure, bandOf, sampledPosition, sampleVelocity,
    positionCommand, positionTerm, sampleBias, positionTaken, byPositionLaw]
  rfl

theorem velocityTaken_measured (r : ServoRecord) (e : Int) (v : Svc) : velocityTaken e (measured r v) = byVelocityLaw r e (sampleVelocity r v) v := by
  simp only [Svc.velocityLaw, Svc.setCommand, biasOf, Position.measure, bandOf, sampledPosition, sampleVelocity, velocityCommand, sampleBias,
    velocityTaken, byVelocityLaw]
  rfl

theorem error_measured (r : ServoRecord) (v : Svc) : targetPosition (measured r v) - (measured r v).pos.p = sampleError r v := by
  simp only [targetPosition, Position.measure]

section Next

variable {r : ServoRecord} {w : Svc} {s : State} (fresh : s.svc.pos.latestWedge ≠ some r.wedge) (valid : sampleValid s.svc.pos r = true)
  (taken : commanded (sampleError r s.svc) (measured r s.svc) = w)
include fresh valid taken

theorem next_inFollow (noOp : s.txe.op = none) (mode : s.svc.mode = .follow) (stage : w.cal.stage ≠ .gathering) :
    exec (.servoSample r) s = .next (finish { s with svc := w }) := by
  have act := (servoSampleAct_valid (.inr (.inr mode)) fresh valid).trans
    (validLogic_follow (s := { s with svc := measured r s.svc }) (error_measured r s.svc) mode)
  rw [show commanded (sampleError r s.svc) ({ s with svc := measured r s.svc } : State).svc = w from taken] at act
  exact next_sample (act.trans (passGather_idle stage)) fun u op => nomatch noOp ▸ op

theorem next_running (noOp : s.txe.op = none) (mode : s.svc.mode = .seek ∨ s.svc.mode = .settle) (outstanding : w.seekStatus = .outstanding)
    (after : w.mode = .seek ∨ w.mode = .settle) (runs : w.timeoutCount < 399) :
    exec (.servoSample r) s = .next (finish { s with svc := { w with timeoutCount := w.timeoutCount + 1 } }) := by
  have notFollow : ∀ {m : ServoMode}, m = .seek ∨ m = .settle → m ≠ .follow := by rintro m (rfl | rfl) <;> exact ServoMode.noConfusion
  have act := (servoSampleAct_valid (by tauto) fresh valid).trans
    (validLogic_runs (s := { s with svc := measured r s.svc }) (error_measured r s.svc) (notFollow mode) (by rw [taken]; exact notFollow after))
  rw [show commanded (sampleError r s.svc) ({ s with svc := measured r s.svc } : State).svc = w from taken] at act
  exact next_sample (act.trans (countTimeout_runs outstanding after runs)) fun u op => nomatch noOp ▸ op

end Next

/-- A command within its range is not saturated (R67). -/
theorem clamp_of_natAbs_le {n : Nat} {c : Int} (within : c.natAbs ≤ n) : clamp (-n) n c = c := by
  unfold clamp
  omega

theorem unsaturated_measured {r : ServoRecord} {e : Int} {v : Svc}
    (within : (positionCommand r e (sampleVelocity r v) (clamp (-8192) 8192 (v.integrator + e)) v).natAbs ≤ 127) :
    ((measured r v).positionLaw e).saturated = false := by
  have taken := congrArg Svc.saturated (positionTaken_measured .settle r e v)
  exact taken.trans (decide_eq_false (not_not.mpr (clamp_of_natAbs_le within)))

/-! ### The first samples of a load -/

/-- The record in which the first valid sample of a load has opened the position record (R71). -/
abbrev opened (r : ServoRecord) (v : Svc) : Svc :=
  { v with
    pos := v.pos.start r, loadCount := v.loadCount + 1, mode := .seek, seekStatus := .outstanding, settleCount := 0, timeoutCount := 0
    integrator := 0 }

theorem error_opened (r : ServoRecord) (v : Svc) : targetPosition (opened r v) - (opened r v).pos.p = sampleError r v := by
  simp only [targetPosition, Position.start]

theorem velocityTaken_opened (r : ServoRecord) (e : Int) (v : Svc) : velocityTaken e (opened r v) = { byVelocityLaw r e 0 v with
    pos := { sampledPosition r 0 v.pos with present := true }, loadCount := v.loadCount + 1, seekStatus := .outstanding, settleCount := 0
    timeoutCount := 0, integrator := 0 } := by
  simp only [Svc.velocityLaw, Svc.setCommand, biasOf, Position.start, bandOf, velocityCommand, sampleBias, velocityTaken]
  rfl

theorem positionTaken_opened {r : ServoRecord} {e : Int} {v : Svc} (near : e.natAbs ≤ 64) :
    positionTaken .settle e (opened r v) = { byPositionLaw .settle r e 0 e v with
      pos := { sampledPosition r 0 v.pos with present := true }, loadCount := v.loadCount + 1, seekStatus := .outstanding, settleCount := 0
      timeoutCount := 0 } := by
  have inRange : clamp (-8192) 8192 (0 + e) = e := by
    rw [zero_add]
    exact clamp_of_natAbs_le (n := 8192) (by omega)
  simp only [Svc.positionLaw, Svc.integrate, Svc.terms, Svc.setCommand, biasOf, Position.start, bandOf, positionCommand, positionTerm, sampleBias,
    positionTaken, inRange]

theorem servoSampleAct_opens {r : ServoRecord} {s : State} (mode : s.svc.mode = .loading) (fresh : s.svc.pos.latestWedge ≠ some r.wedge)
    (good : recordGood r = true) : servoSampleAct r s = validLogic { s with svc := opened r s.svc } := by
  have loads : servoSampleAct r s = loadingSample r s := by
    unfold servoSampleAct
    rw [mode]
    exact if_neg fresh
  rw [loads]
  exact if_pos good

theorem next_opened {r : ServoRecord} {w : Svc} {s : State} (fresh : s.svc.pos.latestWedge ≠ some r.wedge) (good : recordGood r = true)
    (taken : commanded (sampleError r s.svc) (opened r s.svc) = w) (noOp : s.txe.op = none) (mode : s.svc.mode = .loading)
    (outstanding : w.seekStatus = .outstanding) (after : w.mode = .seek ∨ w.mode = .settle) (runs : w.timeoutCount < 399) :
    exec (.servoSample r) s = .next (finish { s with svc := { w with timeoutCount := w.timeoutCount + 1 } }) := by
  have notFollow : w.mode ≠ .follow := by rcases after with now | now <;> rw [now] <;> exact ServoMode.noConfusion
  have act := (servoSampleAct_opens mode fresh good).trans
    (validLogic_runs (s := { s with svc := opened r s.svc }) (error_opened r s.svc) ServoMode.noConfusion (by rw [taken]; exact notFollow))
  rw [show commanded (sampleError r s.svc) ({ s with svc := opened r s.svc } : State).svc = w from taken] at act
  exact next_sample (act.trans (countTimeout_runs outstanding after runs)) fun u op => nomatch noOp ▸ op

/-! ### FOLLOW entered for a sector -/

theorem followEntered_transfer {s : State} (outstanding : s.svc.seekStatus = .outstanding) (requester : s.svc.requester = .transfer) :
    followEntered s = ⟨{ s with svc := { s.svc with seekStatus := .onTrack } }, [.onTrack .transfer]⟩ := by
  simp [followEntered, outstanding, requester, State.modSvc]

theorem transferOnTrack_looks {o : SectorOp} {s : State} (op : s.txe.op = some o) (phase : o.phase = .positioning) (target : o.target ≠ .seekOnly) :
    transferOnTrack s = done { s with txe := { s.txe with op := some { o with phase := .looking } } } := by
  simp [transferOnTrack, op, phase, target, setOp, State.modTxe]

/-- A requester's seek that enters FOLLOW has its sector looked for (R128). -/
theorem next_looks {o : SectorOp} {r : ServoRecord} {w : Svc} {s : State} (fresh : s.svc.pos.latestWedge ≠ some r.wedge)
    (valid : sampleValid s.svc.pos r = true) (taken : commanded (sampleError r s.svc) (measured r s.svc) = w) (mode : s.svc.mode = .settle)
    (op : s.txe.op = some o) (phase : o.phase = .positioning) (target : o.target ≠ .seekOnly) (outstanding : w.seekStatus = .outstanding)
    (requester : w.requester = .transfer) (after : w.mode = .follow) :
    exec (.servoSample r) s = .next (finish { s with
      svc := { w with seekStatus := .onTrack }, txe := { s.txe with op := some { o with phase := .looking } } }) := by
  have act := (servoSampleAct_valid (.inr (.inl mode)) fresh valid).trans (validLogic_enters (s := { s with svc := measured r s.svc })
    (error_measured r s.svc) (by rw [show ({ s with svc := measured r s.svc } : State).svc.mode = .settle from mode]; exact ServoMode.noConfusion) (by rw [taken]; exact after))
  rw [show commanded (sampleError r s.svc) ({ s with svc := measured r s.svc } : State).svc = w from taken, 
    followEntered_transfer (by exact outstanding) (by exact requester)] at act
  have watched : mediaWatch { s with svc := { w with seekStatus := .onTrack } } = done _ := mediaWatch_idle fun u here => by
    obtain rfl := Option.some.inj (op.symm.trans here)
    simp [phase]
  refine next_of_settle (settle_of (andThen_of act watched) (drain_of (m := []) ?_ (drain_nil _ _)))
  exact transferOnTrack_looks (by exact op) phase target

/-- Settles O18: the mode's test picks the law, by which the record is commanded. -/
theorem validSamplesCommand : Obligations.ValidSamplesCommand := by
  intro r o s fresh
  dsimp only
  refine ⟨fun noOp mode stage valid near => ?follow, fun noOp mode stage valid beyond within => ?drift, fun noOp mode stage valid beyond => ?fall,
    fun noOp mode valid runs far => ?seek, fun noOp mode valid runs near slow => ?arrive, fun noOp mode valid runs within counts => ?settle,
    fun op phase target requester outstanding mode valid near unsaturated count => ?enter, fun noOp mode valid runs beyond => ?leave,
    fun noOp mode good => ⟨fun far => ?loadSeek, fun near => ?loadSettle⟩⟩
  case follow =>
    have taken := commanded_follow (e := sampleError r s.svc) (v := measured r s.svc) mode near
    rw [positionTaken_measured] at taken
    exact next_inFollow fresh valid taken noOp mode stage
  case drift =>
    have taken := commanded_drifts (e := sampleError r s.svc) (v := measured r s.svc) mode beyond within
    rw [positionTaken_measured] at taken
    exact next_inFollow fresh valid taken noOp mode stage
  case fall =>
    have taken := commanded_falls (e := sampleError r s.svc) (v := measured r s.svc) mode beyond
    rw [velocityTaken_measured] at taken
    exact next_inFollow fresh valid taken noOp mode stage
  case seek =>
    obtain ⟨outstanding, below⟩ := runs
    have taken := commanded_seeks (e := sampleError r s.svc) (v := measured r s.svc) mode far
    rw [velocityTaken_measured] at taken
    exact next_running fresh valid taken noOp (.inl mode) outstanding (.inl rfl) below
  case arrive =>
    obtain ⟨outstanding, below⟩ := runs
    have taken := commanded_arrives (e := sampleError r s.svc) (v := measured r s.svc) mode near slow
    rw [positionTaken_measured] at taken
    exact next_running fresh valid taken noOp (.inl mode) outstanding (.inr rfl) below
  case settle =>
    obtain ⟨outstanding, below⟩ := runs
    have taken := commanded_settles (e := sampleError r s.svc) (v := measured r s.svc) mode within counts
    rw [positionTaken_measured] at taken
    exact next_running fresh valid taken noOp (.inr mode) outstanding (.inr rfl) below
  case leave =>
    obtain ⟨outstanding, below⟩ := runs
    have taken := commanded_leaves (e := sampleError r s.svc) (v := measured r s.svc) mode beyond
    rw [velocityTaken_measured] at taken
    exact next_running fresh valid taken noOp (.inr mode) outstanding (.inl rfl) below
  case enter =>
    have taken := commanded_enters (e := sampleError r s.svc) (v := measured r s.svc) mode near (unsaturated_measured unsaturated) count
    rw [positionTaken_measured] at taken
    exact next_looks fresh valid taken mode op phase target outstanding requester rfl
  case loadSeek =>
    have taken := commanded_seeks (e := sampleError r s.svc) (v := opened r s.svc) rfl (.inl far)
    rw [velocityTaken_opened] at taken
    exact next_opened fresh good taken noOp mode rfl (.inl rfl) (Nat.zero_lt_succ _)
  case loadSettle =>
    have taken := commanded_arrives (e := sampleError r s.svc) (v := opened r s.svc) rfl near (Nat.zero_le _)
    rw [positionTaken_opened near] at taken
    exact next_opened fresh good taken noOp mode rfl (.inr rfl) (Nat.zero_lt_succ _)

end Sys2Proof.Machine

/-! Missed samples, timeouts, and heads lost and put away (R58, R61, R69 to R73, R87). -/

namespace Sys2Proof.Machine

set_option Elab.async false

/-! ### A missed sample -/

section Missed

variable {r : ServoRecord} {s : State}

theorem servoSampleAct_disregarded (away : s.svc.mode = .parked ∨ s.svc.mode = .retract ∨ s.svc.mode = .lost ∨ s.svc.pos.latestWedge = some r.wedge) :
    servoSampleAct r s = done s := by
  unfold servoSampleAct
  split
  · rfl
  · rfl
  · rfl
  all_goals
    next mode =>
      rcases away with parked | retract | lost | taken
      · exact nomatch mode.symm.trans parked
      · exact nomatch mode.symm.trans retract
      · exact nomatch mode.symm.trans lost
      · exact if_pos taken

theorem predict_eq (r : ServoRecord) (v : Svc) : ({ v with pos := v.pos.predict r.wedge, settleCount := 0, writePermission := false } : Svc) = missedSvc r v := by
  rw [Position.predict, satAdd_eq]

/-- A missed sample in FOLLOW is predicted, and counted towards a loss (R58). -/
theorem servoSampleAct_missed (mode : s.svc.mode = .follow) (held : s.svc.seekStatus = .onTrack) (fresh : s.svc.pos.latestWedge ≠ some r.wedge)
    (invalid : sampleValid s.svc.pos r = false) : servoSampleAct r s = raiseLost { s with svc := missedSvc r s.svc } := by
  have tracks : servoSampleAct r s = missedLogic (s.modSvc fun v => { v with pos := v.pos.predict r.wedge }) := by
    unfold servoSampleAct
    rw [mode]
    exact (if_neg fresh).trans (if_neg (by simp [invalid]))
  have rests := countTimeout_rests (s := { s with svc := { s.svc with pos := s.svc.pos.predict r.wedge, settleCount := 0, writePermission := false } })
    (.inl (by simp [held]))
  rw [tracks, ← predict_eq]
  unfold missedLogic
  exact congrArg (Act.andThen · raiseLost) rests

theorem raiseLost_few (few : s.svc.pos.missed < 8) : raiseLost s = done s := if_neg (Nat.not_le.mpr few)

theorem cutOffSeek_rests (rests : s.svc.seekStatus ≠ .outstanding) : cutOffSeek s = done s := if_neg rests

theorem servoLost_rests (rests : s.svc.seekStatus ≠ .outstanding) : servoLost s = done (s.modSvc (Svc.retractTo .lost .lost)) :=
  cutOffSeek_rests (by exact rests)

end Missed

/-- Settles O19: the prediction, and what the watch on a field in flight makes of the missed sample. -/
theorem missedSamplePredicts : Obligations.MissedSamplePredicts := by
  intro r o s
  refine ⟨fun noOp away => ?_, fun noOp mode held fresh invalid few => ?_, fun op dir lock mode held fresh invalid few => ?_,
    fun op dir retry mode held fresh invalid few => ?_, fun noOp mode held fresh invalid eighth => ?_, fun noOp mode fresh bad few => ?_⟩
  · exact next_sample (servoSampleAct_disregarded away) fun u op => nomatch noOp ▸ op
  · exact next_sample ((servoSampleAct_missed mode held fresh invalid).trans (raiseLost_few (Nat.succ_lt_succ few))) fun u op => nomatch noOp ▸ op
  · have act := (servoSampleAct_missed mode held fresh invalid).trans (raiseLost_few (Nat.succ_lt_succ few))
    have watched : mediaWatch { s with svc := missedSvc r s.svc } = done { s with svc := missedSvc r s.svc } := by
      simp [mediaWatch, op, dir, lock, mode]
    refine next_of_done (a := (servoSampleAct r s).andThen mediaWatch) ?_
    rw [act, done_andThen, watched]
  · have act := (servoSampleAct_missed mode held fresh invalid).trans (raiseLost_few (Nat.succ_lt_succ few))
    have watched := mediaWatch_cut (s := { s with svc := missedSvc r s.svc }) op retry mode (.inl ⟨dir, by simp [gateAllowed]⟩)
    refine next_of_done (a := (servoSampleAct r s).andThen mediaWatch) ?_
    rw [act, done_andThen, watched]
  · have lost : raiseLost { s with svc := missedSvc r s.svc } = servoLost { s with svc := missedSvc r s.svc } :=
      if_pos (show 8 ≤ s.svc.pos.missed + 1 by omega)
    exact next_sample ((servoSampleAct_missed mode held fresh invalid).trans (lost.trans (servoLost_rests (by simp [held])))) fun u op => nomatch noOp ▸ op
  · have counts : servoSampleAct r s = done { s with svc := { s.svc with
        loadCount := s.svc.loadCount + 1, pos := { s.svc.pos with latestWedge := some r.wedge } } } := by
      unfold servoSampleAct
      rw [mode]
      exact (if_neg fresh).trans ((if_neg (by simp [bad])).trans (if_neg (by omega)))
    exact next_sample counts fun u op => nomatch noOp ▸ op

/-! ### Timeouts -/

section Timeout

variable {s : State}

/-- A record whose seek has timed out (R87). -/
abbrev timedOut (v : Svc) : Svc := { v with timeoutCount := 400, seekErrors := min 65535 (v.seekErrors + 1), seekStatus := .timedOut }

theorem timeoutAct_requester (requester : s.svc.requester ≠ .load) :
    timeoutAct s = ⟨{ s with svc := timedOut s.svc }, seekErrorTo s.svc.requester⟩ := by
  unfold timeoutAct
  rw [if_neg requester]
  unfold timedOut
  rw [← satAdd_eq]
  rfl

theorem timeoutAct_load (requester : s.svc.requester = .load) :
    timeoutAct s = done (loadFailure { s with svc := timedOut s.svc }) := by
  unfold timeoutAct
  rw [if_pos requester]
  unfold timedOut
  rw [← satAdd_eq]
  rfl

/-- A new seek that cuts off none. -/
theorem servoTarget_newSeek {r : Requester} {cylinder head : Nat} {offset : Int} (mode : s.svc.mode = .seek ∨ s.svc.mode = .settle ∨ s.svc.mode = .follow)
    (rests : s.svc.seekStatus ≠ .outstanding ∨ s.svc.requester = r) (new : isHeadSwitch cylinder head offset s.svc = false) :
    servoTarget r cylinder head offset s = done { s with svc := { s.svc with
      targetCylinder := cylinder, targetHead := head, retryOffset := offset, requester := r, mode := .seek, integrator := 0, settleCount := 0
      timeoutCount := 0, writePermission := false, seekStatus := .outstanding } } := by
  have none : ¬ (s.svc.seekStatus = .outstanding ∧ s.svc.requester ≠ r) := by tauto
  unfold servoTarget
  rcases mode with mode | mode | mode <;> simp [mode, State.modSvc, new, Svc.newSeek, errorsAfterRequest, replacedSeek, none, done]

/-- A sector operation's seek to the target that the servo holds begins again. -/
theorem seekOp_again {o : SectorOp} (mode : s.svc.mode = .seek ∨ s.svc.mode = .settle) (requester : s.svc.requester = .transfer)
    (phase : o.phase = .positioning) (target : s.svc.targetCylinder = o.cylinder) (side : s.svc.targetHead = o.head)
    (ladder : s.svc.retryOffset = ladderOffset o.retries) :
    seekOp o s = done { s with
      svc := { s.svc with
        mode := .seek, integrator := 0, settleCount := 0, timeoutCount := 0, writePermission := false, seekStatus := .outstanding }
      txe := { s.txe with op := some o } } := by
  have stays : ({ o with phase := .positioning } : SectorOp) = o := by
    rw [← phase]
  unfold seekOp
  rw [stays, ← target, ← side, ← ladder, servoTarget_newSeek (s := setOp o s) (by exact mode.imp_right .inl) (.inr requester)
    (by simp [isHeadSwitch, setOp]), ← requester]
  rfl

/-- The operation's seek begins again after its first timeout (R128). -/
theorem transferSeekError_again {o : SectorOp} (op : s.txe.op = some o) (phase : o.phase = .positioning) (first : o.seekFailures = 0)
    (mode : s.svc.mode = .seek ∨ s.svc.mode = .settle) :
    transferSeekError s = seekOp { o with seekFailures := 1 } s := by
  unfold transferSeekError
  simp only [op, phase, ne_eq, not_true_eq_false, if_false, first]
  rcases mode with mode | mode <;> rw [mode] <;> rfl

theorem transferSeekError_fails {o : SectorOp} (op : s.txe.op = some o) (phase : o.phase = .positioning) (second : o.seekFailures = 1)
    (mode : s.svc.mode = .seek ∨ s.svc.mode = .settle) :
    transferSeekError s = opFailed .seekError (setOp { o with seekFailures := 2 } s) := by
  unfold transferSeekError
  simp only [op, phase, ne_eq, not_true_eq_false, if_false, second]
  rcases mode with mode | mode <;> rw [mode] <;> rfl

/-- A SEEK that fails ends its order (R139). -/
theorem opFailed_seek {o : SectorOp} {e : Executing} {out : Outcome} (op : s.txe.op = some o) (job : s.txe.job = some (orderJob .seek))
    (executing : s.lif.executing = some e) : opFailed out s = endOrderJob out e.order.kind.detail [] (clearOp s) := by
  unfold opFailed
  simp only [op, job]
  exact endOrderJobPlain_of (by exact executing)

/-- The pass goes on to its next band (R75, R96). -/
theorem passAdvance_seeks (more : s.svc.cal.band < 7) (mode : s.svc.mode = .seek ∨ s.svc.mode = .settle ∨ s.svc.mode = .follow)
    (rests : s.svc.seekStatus ≠ .outstanding ∨ s.svc.requester = .calibration) (target : s.svc.targetCylinder = 150 * s.svc.cal.band + 75) :
    passAdvance s = done { s with svc := seeksNextBand s.svc } := by
  have new : isHeadSwitch (150 * (s.svc.cal.band + 1) + 75) 0 0 s.svc = false := by
    simp only [isHeadSwitch, target, Bool.and_eq_false_imp, Bool.and_eq_true, beq_iff_eq]
    omega
  exact (if_pos more).trans (servoTarget_newSeek (by exact mode) (by exact rests) (by exact new))

end Timeout

/-- Settles O20. -/
theorem loadsAndSeeksTimeOut : Obligations.LoadsAndSeeksTimeOut := by
  intro o e cylinder head s
  have starts : s.svc.seekStatus = .outstanding → (s.svc.mode = .seek ∨ s.svc.mode = .settle) → exec .seekTimeout s = run (timeoutAct s) :=
    fun outstanding mode => congrArg run (if_pos ⟨outstanding, mode⟩)
  refine ⟨fun loading => ?_, fun outstanding mode requester => ?_, fun outstanding mode requester => ?_,
    fun outstanding mode requester op phase first target side ladder => ?again,
    fun outstanding mode requester op phase second job executing live kind waits wanted => ?fails,
    fun outstanding mode requester stage more target => ?pass⟩
  · exact next_of_done (congrArg done (if_pos loading))
  · rw [starts outstanding mode]
    exact next_of_settle (settle_of (timeoutAct_requester (by simp [requester])) (by rw [requester]; exact drain_nil _ _))
  · rw [starts outstanding mode]
    exact next_of_done (timeoutAct_load requester)
  case again =>
    have asks : timeoutAct s = ⟨{ s with svc := timedOut s.svc }, [.seekError .transfer]⟩ := by
      rw [timeoutAct_requester (by simp [requester]), requester]
      rfl
    have again := (transferSeekError_again (s := { s with svc := timedOut s.svc }) op phase first mode).trans
      (seekOp_again (by exact mode) (by exact requester) phase target side ladder)
    rw [starts outstanding mode]
    exact next_of_settle (settle_of asks (drain_of again (drain_nil _ _)))
  case fails =>
    have asks : timeoutAct s = ⟨{ s with svc := timedOut s.svc }, [.seekError .transfer]⟩ := by
      rw [timeoutAct_requester (by simp [requester]), requester]
      rfl
    have ends := (transferSeekError_fails (s := { s with svc := timedOut s.svc }) op phase second mode).trans
      ((opFailed_seek (o := { o with seekFailures := 2 }) rfl (by exact job) (by exact executing)).trans (endOrderJob_live (by exact executing) live))
    obtain ⟨-, ready, -⟩ := id waits
    refine leads_of ((starts outstanding mode).trans (next_of_settle (settle_of asks (drain_of ends (drain_jobEnded (by exact waits) (by exact wanted)))))) ?_
    rw [startFlushTimer_eq]
    refine ⟨rfl, rfl, rfl, ?_, rfl, rfl, rfl, rfl, ?_, held_map held_freed⟩
    · have detail : e.order.kind.detail = .cylinder cylinder := by rw [kind]; rfl
      rw [← ready, ← detail]
      rfl
    · and_intros <;> rfl
  case pass =>
    have asks : timeoutAct s = ⟨{ s with svc := timedOut s.svc }, [.seekError .calibration]⟩ := by
      rw [timeoutAct_requester (by simp [requester]), requester]
      rfl
    have advances : passSeekError { s with svc := timedOut s.svc } = passAdvance { s with svc := timedOut s.svc } := by
      unfold passSeekError
      rw [if_pos (by exact stage)]
      rcases mode with mode | mode <;> simp only [mode]
    have next := advances.trans (passAdvance_seeks (s := { s with svc := timedOut s.svc }) more (by exact mode.imp_right .inl)
      (.inl SeekStatus.noConfusion) target)
    rw [starts outstanding mode]
    refine (next_of_settle (settle_of asks (drain_of next (drain_nil _ _)))).trans ?_
    unfold seeksNextBand timedOut
    rw [← requester, ← stage]

/-! ### Heads lost and put away -/

theorem cutOffSeek_cuts {s : State} (outstanding : s.svc.seekStatus = .outstanding) :
    cutOffSeek s = ⟨{ s with svc := { s.svc with requester := .nobody, seekStatus := .noSeek, seekErrors := min 65535 (s.svc.seekErrors + 1) } },
      seekErrorTo s.svc.requester⟩ := by
  rw [← satAdd_eq]
  exact if_pos outstanding

/-- The record of heads put away (R72). -/
abbrev putAway (v : Svc) : Svc :=
  { v with
    mode := .parked, command := -8, saturated := false, pos := v.pos.clear, settleCount := 0, timeoutCount := 0, loadCount := 0
    retractTimer := none }

/-- The brake taken from DRIVING on the way down (R43). -/
theorem enterSpinDown_driving {s : State} (driving : s.spc.state = .driving) :
    enterSpinDown s = ⟨{ s with csq := stillCsq .spinDown s.csq, sgc := stillSgc s.sgc, spc := Spc.brake (brakeInterval s) s.spc },
      if s.spc.phase = .track then [.lockLost] else []⟩ := spindleBrake_free (s := enter .spinDown s) (.inr (.inl driving))

/-- Settles O21. -/
theorem lostHeadsArePutAway : Obligations.LostHeadsArePutAway := by
  intro s
  have starts : (s.svc.mode = .seek ∨ s.svc.mode = .settle ∨ s.svc.mode = .follow) →
      exec .lostCondition s = run ((servoLost (eighthMissed s)).andThen mediaWatch) := fun mode => congrArg run (if_pos mode)
  refine ⟨fun mode rests noOp => ?_, fun mode outstanding noOp idle => ?_, fun running retracting unload driving => ?away⟩
  · rw [starts mode]
    refine next_of_done ?_
    rw [servoLost_rests (by exact rests), done_andThen]
    exact mediaWatch_idle fun u op => nomatch noOp ▸ op
  · rw [starts (mode.imp_right .inl)]
    have lost : servoLost (eighthMissed s) = _ := cutOffSeek_cuts (s := (eighthMissed s).modSvc (Svc.retractTo .lost .lost)) (by exact outstanding)
    have act := andThen_of lost (mediaWatch_idle fun u op => nomatch noOp ▸ op)
    exact next_of_settle (settle_of act (drain_seekErrorTo (by exact noOp) (by exact idle) fun k _ => drain_nil _ _))
  case away =>
    have act : retractTimerAct s = send (.parked s.svc.retractCause) { s with svc := putAway s.svc } := if_pos ⟨running, .inl retracting⟩
    have parks : parkedAct s.svc.retractCause { s with svc := putAway s.svc } = enterSpinDown { s with svc := putAway s.svc } := by
      simp only [parkedAct, unload]
    refine leads_of (next_of_settle (settle_of act (drain_of (parks.trans (enterSpinDown_driving (by exact driving)))
      (drain_ignored fun g mem => ?_)))) ?_
    · obtain rfl : g = .lockLost := by
        split at mem
        · simpa using mem
        · simp at mem
      rfl
    · refine ⟨rfl, rfl, rfl, rfl, rfl, rfl, rfl, rfl, rfl, rfl, rfl, rfl, rfl, rfl, rfl, rfl, ?_⟩
      and_intros <;> rfl

end Sys2Proof.Machine

/-! The calibration pass: its beginning, its gathering, its falls, and its end (R75, R95 to R101). -/

namespace Sys2Proof.Machine

set_option Elab.async false

/-! ### The pass begun by an order -/

theorem proceed_calibrate {s : State} (kind : orderKind s = some .calibrate) : proceed s = setDue (setStage .waitPass s) := by simp [proceed, kind]

/-- The sequencer in CALIBRATE. -/
abbrev calibratingCsq (c : Csq) : Csq := { c with lifecycle := .calibrate, debounce := none, ejectCheck := none, oneShot := none, standby := none }

/-- The record at the start of a pass (R96). -/
abbrev passBegun (tag : Option Nat) (v : Svc) : Svc :=
  { v with
    targetCylinder := 75, targetHead := 0, retryOffset := 0, requester := .calibration, mode := .seek, integrator := 0, settleCount := 0
    timeoutCount := 0, writePermission := false, seekStatus := .outstanding
    cal := { v.cal with stage := .seeking, band := 0, gathered := 0, bandSum := 0, falls := 0, bandsDone := [], passOrder := tag } }

/-- A pass that is due begins with the slot empty (R95, R96). -/
theorem calibrationCheck_begins {s : State} (ready : s.csq.lifecycle = .ready) (due : s.svc.cal.due = true) (noJob : s.txe.job = none)
    (order : s.txe.orderWaits = false) (idle : s.svc.cal.stage = .idle) (mode : s.svc.mode = .follow) (held : s.svc.seekStatus = .onTrack)
    (elsewhere : s.svc.targetCylinder ≠ 75) :
    calibrationCheck s = done { s with
      csq := calibratingCsq s.csq, sgc := stillSgc s.sgc, svc := passBegun (passTag s) s.svc } := by
  have enters : calibrationCheck s = passRequest (passTag s) (enter .calibrate s) := by
    simp [calibrationCheck, ready, due, noJob, order, enterCalibrate]
  have entered : enter .calibrate s = { s with csq := calibratingCsq s.csq, sgc := stillSgc s.sgc } := rfl
  rw [enters, entered]
  refine (if_pos (by exact idle)).trans (servoTarget_newSeek (r := .calibration) (cylinder := 75) (head := 0) (offset := 0)
    (by exact .inr (.inr mode)) (.inl ?_) ?_)
  · show s.svc.seekStatus ≠ .outstanding
    simp [held]
  · simp [isHeadSwitch, modCal, State.modSvc, elsewhere]

/-! ### The gathering -/

section Gather

variable {s : State} (stage : s.svc.cal.stage = .gathering)
include stage

/-- The record with one more sample summed (R97). -/
abbrev summed (v : Svc) : Svc := { v with cal := { v.cal with bandSum := v.cal.bandSum + (v.termP + v.termI), gathered := v.cal.gathered + 1 } }

theorem passGather_counts (mode : s.svc.mode = .follow) (more : s.svc.cal.gathered < 63) : passGather s = done { s with svc := summed s.svc } :=
  (if_pos stage).trans ((if_pos mode).trans (if_neg (show ¬ 64 ≤ s.svc.cal.gathered + 1 by omega)))

theorem passGather_completes (mode : s.svc.mode = .follow) (last : s.svc.cal.gathered = 63) :
    passGather s = bandComplete { s with svc := summed s.svc } :=
  (if_pos stage).trans ((if_pos mode).trans (if_pos (show 64 ≤ s.svc.cal.gathered + 1 by omega)))

/-- A first fall goes back to SEEKING on the same target (R97). -/
theorem passGather_falls (mode : s.svc.mode ≠ .follow) (first : s.svc.cal.falls = 0) :
    passGather s = done { s with svc := { s.svc with cal := { s.svc.cal with bandSum := 0, gathered := 0, falls := 1, stage := .seeking } } } :=
  (if_pos stage).trans ((if_neg mode).trans (if_pos first))

theorem passGather_fails (mode : s.svc.mode ≠ .follow) (second : s.svc.cal.falls ≠ 0) :
    passGather s = passAdvance { s with svc := { s.svc with cal := { s.svc.cal with bandSum := 0, gathered := 0 } } } :=
  (if_pos stage).trans ((if_neg mode).trans (if_neg second))

end Gather

/-- The record with the band's entry corrected (R98). -/
abbrev corrected (v : Svc) : Svc :=
  { v with
    bias := v.bias.modify v.cal.band (fun x => clamp (-32) 31 (x + roundDiv v.cal.bandSum 64)), integrator := 0
    cal := { v.cal with bandsDone := insertNat v.cal.band v.cal.bandsDone } }

theorem bandComplete_eq (s : State) : bandComplete s = passAdvance { s with svc := corrected s.svc } := rfl

/-- A valid sample in FOLLOW while the pass gathers. -/
theorem servoSampleAct_gathers {r : ServoRecord} {w : Svc} {s : State} (gathers : Gathers r s)
    (taken : commanded (sampleError r s.svc) (measured r s.svc) = w) : servoSampleAct r s = passGather { s with svc := w } := by
  obtain ⟨-, mode, -, fresh, valid⟩ := gathers
  have act := (servoSampleAct_valid (.inr (.inr mode)) fresh valid).trans
    (validLogic_follow (s := { s with svc := measured r s.svc }) (error_measured r s.svc) mode)
  rwa [show commanded (sampleError r s.svc) ({ s with svc := measured r s.svc } : State).svc = w from taken] at act

/-! ### The end of the pass -/

/-- The record at the end of a pass (R99). -/
abbrev passOver (r : PassResult) (temperature : Nat) (v : Svc) : Svc :=
  { v with requester := .nobody, cal := { v.cal with lastResult := r, temperature := some temperature, due := false, stage := .idle } }

/-- A pass completes with its result, and CAL_FAIL over a partial one (R99). -/
theorem passComplete_eq {r : PassResult} {s : State} (result : passResult s.svc.cal = r) :
    passComplete s = send .passEnded { s with
      svc := passOver r s.smn.temp.latest s.svc
      lif := { s.lif with notices := if r = .partialPass then s.lif.notices ||| 2048#16 else s.lif.notices } } := by
  subst result
  unfold passComplete
  dsimp only
  split <;> rfl

/-- The result once the last band is done. -/
theorem passResult_last {c : Calibration} {v : Svc} (done : c.bandsDone = insertNat 7 v.cal.bandsDone) :
    passResult c = if EarlierBandsDone v then PassResult.success else PassResult.partialPass := by
  simp [passResult, mem_insertNat, EarlierBandsDone, done]

section Ready

variable {s : State}

/-- The sequencer in READY, its standby timer started. -/
abbrev readyCsq (x : Settings) (c : Csq) : Csq :=
  { c with lifecycle := .ready, debounce := none, ejectCheck := none, oneShot := none, standby := standbyFrom x }

/-- READY entered (R14, R154). -/
abbrev inReady (s : State) : State :=
  { s with
    csq := readyCsq s.lif.settings s.csq
    sgc := { s.sgc with flushTimer := flushTimerFrom .ready s.lif.settings s.sgc.flushTimer, heldDeparture := false } }

theorem enterReady_eq : enterReady s = send (.readyEntered s.csq.ejectPending) (inReady s) := by
  unfold enterReady
  rw [restartStandby_eq, startFlushTimer_eq]
  rfl

/-- The order of a pass ends in READY (R101). -/
theorem passEndedAct_order {tag : Nat} {e : Executing} (calibrate : s.csq.lifecycle = .calibrate) (eject : s.csq.ejectPending = false)
    (order : s.svc.cal.passOrder = some tag) (executing : s.lif.executing = some e) (waits : e.stage = .waitPass) (live : e.remnant = false) :
    passEndedAct s = ⟨ended
      { tag := e.order.tag, kind := e.order.kind, outcome := if s.svc.cal.lastResult = .success then .done else .seekError, blocks := e.blocks
        detail := e.order.kind.ownDetail, lifecycle := .ready }
      { inReady s with svc := { s.svc with cal := { s.svc.cal with passOrder := none } } }, [.readyEntered false, .orderEnded]⟩ := by
  have ends : ∀ o, endPassOrder o (inReady s) = endOwned o { inReady s with svc := { s.svc with cal := { s.svc.cal with passOrder := none } } } := by
    intro o
    simp [endPassOrder, order, passTag, executing, waits, modCal, State.modSvc]
  refine (if_pos calibrate).trans (andThen_of (eject ▸ enterReady_eq) ((ends _).trans (endOwned_live (by exact executing) live)))

/-- READY reached with nothing waiting. -/
theorem readyEnteredAct_quiet (order : s.txe.orderWaits = false) (carried : s.csq.carried = none) (noOrder : s.lif.executing = none)
    (due : s.svc.cal.due = false) : readyEnteredAct false s = ⟨s, [.dispatch, .slotIdle]⟩ := by
  have waiting : takeWaiting s = done s := if_neg (by simp [order])
  have carries : takeCarried s = done s := by simp [takeCarried, carried]
  have resumes : resumeWaiting s = done s := by simp [resumeWaiting, noOrder]
  unfold readyEnteredAct
  rw [waiting, done_andThen, carries, done_andThen, resumes, done_andThen, if_neg Bool.false_ne_true, done_andThen, calibrationCheck_of_not_due due,
    done_andThen]

/-- The end of the pass of an order, to rest in READY. -/
theorem settle_passEnded {tag : Nat} {e : Executing} {o : Outcome} (calibrate : s.csq.lifecycle = .calibrate) (eject : s.csq.ejectPending = false)
    (order : s.svc.cal.passOrder = some tag) (executing : s.lif.executing = some e) (waits : e.stage = .waitPass) (live : e.remnant = false)
    (outcome : (if s.svc.cal.lastResult = .success then Outcome.done else .seekError) = o)
    (noOp : s.txe.op = none) (orderWaits : s.txe.orderWaits = false) (carried : s.csq.carried = none) (due : s.svc.cal.due = false)
    (queue : s.lif.orderQueue = []) (wanted : s.sgc.flushWanted = false) :
    settle ((send .passEnded s).andThen mediaWatch) = finish (startFlushTimer (ended
      { tag := e.order.tag, kind := e.order.kind, outcome := o, blocks := e.blocks, detail := e.order.kind.ownDetail, lifecycle := .ready }
      { inReady s with svc := { s.svc with cal := { s.svc.cal with passOrder := none } } })) := by
  subst outcome
  have watched : (send .passEnded s).andThen mediaWatch = ⟨s, [.passEnded]⟩ := andThen_of rfl (mediaWatch_idle fun u op => nomatch noOp ▸ op)
  refine settle_of watched (drain_of (passEndedAct_order calibrate eject order executing waits live) ?_)
  refine drain_of (readyEnteredAct_quiet (by exact orderWaits) (by exact carried) rfl (by exact due)) ?_
  exact drain_dispatch (by exact queue) (drain_slotIdle (by exact wanted) (drain_orderEnded (by exact queue) (drain_nil _ _)))

/-- The state that a completed pass of an order comes to rest in. -/
abbrev passEndedState (r : PassResult) (e : Executing) (s : State) : State :=
  let o : Outcome := if r = .success then .done else .seekError
  startFlushTimer (ended
    { tag := e.order.tag, kind := e.order.kind, outcome := o, blocks := e.blocks, detail := e.order.kind.ownDetail, lifecycle := .ready }
    { inReady s with
      svc := { passOver r s.smn.temp.latest s.svc with cal := { (passOver r s.smn.temp.latest s.svc).cal with passOrder := none } }
      lif := { s.lif with notices := if r = .partialPass then s.lif.notices ||| 2048#16 else s.lif.notices } })

theorem settle_passComplete {tag : Nat} {e : Executing} {r : PassResult} (result : passResult s.svc.cal = r) (calibrate : s.csq.lifecycle = .calibrate)
    (eject : s.csq.ejectPending = false) (order : s.svc.cal.passOrder = some tag) (executing : s.lif.executing = some e) (waits : e.stage = .waitPass)
    (live : e.remnant = false) (noOp : s.txe.op = none) (orderWaits : s.txe.orderWaits = false) (carried : s.csq.carried = none)
    (queue : s.lif.orderQueue = []) (wanted : s.sgc.flushWanted = false) :
    settle ((passComplete s).andThen mediaWatch) = finish (passEndedState r e s) := by
  rw [passComplete_eq result]
  exact settle_passEnded (by exact calibrate) (by exact eject) (by exact order) (by exact executing) waits live rfl (by exact noOp)
    (by exact orderWaits) (by exact carried) rfl (by exact queue) (by exact wanted)

end Ready

/-- Settles O45. -/
theorem calibrationPassRuns : Obligations.CalibrationPassRuns := by
  intro tag n r e s
  refine ⟨fun quietReady idle onTrack elsewhere => ?begins, fun gathers near more => ?sums,
    fun gathers near last more requester target => ?corrects, fun gathers first => ⟨fun beyond within => ?drifts, fun beyond => ?falls⟩,
    fun gathers second beyond within more requester target => ?fails,
    fun gathers near last band calibrate executing kind waits live order queue noJob orderWaits departure wanted eject carried => ?ends⟩
  case begins =>
    obtain ⟨quiet, ready, due⟩ := quietReady
    obtain ⟨mode, held, -⟩ := onTrack
    have ⟨_, _, _, _, _, noJob, orderWaits, _⟩ := quiet
    have takes : beginOrder ⟨tag, .calibrate⟩ (accepted ⟨tag, .calibrate⟩ s) =
        ⟨modCal (fun c => { c with due := true }) (setStage .waitPass (accepted ⟨tag, .calibrate⟩ s)), [.calibrationDue]⟩ :=
      (beginOrder_proceeds rfl rfl (by exact ready)).trans (proceed_calibrate rfl)
    have begins := calibrationCheck_begins (s := modCal (fun c => { c with due := true }) (setStage .waitPass (accepted ⟨tag, .calibrate⟩ s)))
      ready rfl noJob orderWaits idle mode held elsewhere
    refine leads_of (next_of_settle (settle_accepted quiet (.inl (by simp [ready])) takes (drain_of (m := []) begins (drain_nil _ _)))) ?_
    and_intros <;> rfl
  case sums =>
    have ⟨noOp, mode, stage, _, _⟩ := gathers
    have taken := commanded_follow (e := sampleError r s.svc) (v := measured r s.svc) mode near
    rw [positionTaken_measured] at taken
    exact next_sample ((servoSampleAct_gathers gathers taken).trans (passGather_counts (by exact stage) rfl (by exact more))) fun u op => nomatch noOp ▸ op
  case corrects =>
    have ⟨noOp, mode, stage, _, _⟩ := gathers
    have taken := commanded_follow (e := sampleError r s.svc) (v := measured r s.svc) mode near
    rw [positionTaken_measured] at taken
    refine next_sample ((servoSampleAct_gathers gathers taken).trans ((passGather_completes (by exact stage) rfl (by exact last)).trans
      ((bandComplete_eq _).trans (passAdvance_seeks (by exact more) (.inr (.inr rfl)) (.inr (by exact requester)) (by exact target))))) fun u op => nomatch noOp ▸ op
  case drifts =>
    have ⟨noOp, mode, stage, _, _⟩ := gathers
    have taken := commanded_drifts (e := sampleError r s.svc) (v := measured r s.svc) mode beyond within
    rw [positionTaken_measured] at taken
    exact next_sample ((servoSampleAct_gathers gathers taken).trans (passGather_falls (by exact stage) ServoMode.noConfusion (by exact first)))
      fun u op => nomatch noOp ▸ op
  case falls =>
    have ⟨noOp, mode, stage, _, _⟩ := gathers
    have taken := commanded_falls (e := sampleError r s.svc) (v := measured r s.svc) mode beyond
    rw [velocityTaken_measured] at taken
    exact next_sample ((servoSampleAct_gathers gathers taken).trans (passGather_falls (by exact stage) ServoMode.noConfusion (by exact first)))
      fun u op => nomatch noOp ▸ op
  case fails =>
    have ⟨noOp, mode, stage, _, _⟩ := gathers
    have taken := commanded_drifts (e := sampleError r s.svc) (v := measured r s.svc) mode beyond within
    rw [positionTaken_measured] at taken
    exact next_sample ((servoSampleAct_gathers gathers taken).trans ((passGather_fails (by exact stage) ServoMode.noConfusion (by simp [second])).trans
      (passAdvance_seeks (by exact more) (.inr (.inl rfl)) (.inr (by exact requester)) (by exact target)))) fun u op => nomatch noOp ▸ op
  case ends =>
    have ⟨noOp, mode, stage, _, _⟩ := gathers
    have taken := commanded_follow (e := sampleError r s.svc) (v := measured r s.svc) mode near
    rw [positionTaken_measured] at taken
    generalize law : ({ byPositionLaw .follow r (sampleError r s.svc) _ _ s.svc with writePermission := true } : Svc) = w at taken
    have cal : w.cal = s.svc.cal := law ▸ rfl
    have follow : w.mode = .follow := law ▸ rfl
    have completes := (servoSampleAct_gathers gathers taken).trans ((passGather_completes (by exact cal ▸ stage) follow (by exact cal ▸ last)).trans
      ((bandComplete_eq _).trans (if_neg (by simp [cal, band]))))
    have settled := settle_passComplete (s := { s with svc := corrected (summed w) }) (passResult_last (v := s.svc) (by simp [cal, band])) calibrate eject
      (by exact cal ▸ order) executing waits live noOp orderWaits carried queue wanted
    refine leads_of (next_of_settle ((congrArg (fun a => settle (a.andThen mediaWatch)) completes).trans settled)) ?_
    unfold passEndedState
    rw [startFlushTimer_eq]
    clear completes settled
    subst law
    rw [show (64 : Nat) = s.svc.cal.gathered + 1 by rw [last], show insertNat 7 = insertNat s.svc.cal.band by rw [band], kind]
    by_cases all : EarlierBandsDone s.svc
    · simp only [if_pos all]
      and_intros <;> rfl
    · simp only [if_neg all]
      and_intros <;> rfl

end Sys2Proof.Machine

/-! A link reset (R3, R182). -/

namespace Sys2Proof.Machine

set_option Elab.async false

section Reset

variable {e : Executing} {s : State}

theorem resetExecuting_none (executing : s.lif.executing = none) : resetExecuting s = done s := by simp [resetExecuting, executing]

/-- The state in which the executing order has ended without a report (R182). -/
abbrev droppedState (s : State) : State :=
  { s with lif := { s.lif with executing := none, loadImage := [], readImage := [], readIndex := 0 }, txe := { s.txe with orderWaits := false } }

/-- The state in which the executing order has lost its tag. -/
abbrev remnantState (e : Executing) (s : State) : State := { s with lif := { s.lif with executing := some { e with remnant := true } } }

theorem makeRemnant_eq (executing : s.lif.executing = some e) : makeRemnant s = remnantState e s := by
  simp [makeRemnant, executing, State.modLif]

theorem resetExecuting_drops (executing : s.lif.executing = some e)
    (stage : e.stage = .dispatched ∨ e.stage = .waitSlot ∨ e.stage = .departing ∨ e.stage = .gathering ∨ e.stage = .offering) :
    resetExecuting s = done (droppedState s) := by
  unfold resetExecuting
  rcases stage with h | h | h | h | h <;> simp only [executing, h] <;> rfl

theorem resetExecuting_carries (executing : s.lif.executing = some e) (stage : e.stage = .waitStart) :
    resetExecuting s = done (droppedState (carry e.order.kind s)) := by
  simp only [resetExecuting, executing, stage]
  rfl

theorem carry_of_stays (stays : e.order.kind.leaves = false) : carry e.order.kind s = s := by
  unfold carry
  cases kind : e.order.kind <;> simp_all [OrderKind.leaves, State.modCsq]

theorem resetExecuting_runsOn (executing : s.lif.executing = some e) (stage : e.stage = .waitPass ∨ (e.stage = .inSlot ∧ labelWriting s = true)) :
    resetExecuting s = done (remnantState e s) := by
  rw [← makeRemnant_eq executing]
  unfold resetExecuting
  rcases stage with h | ⟨h, writing⟩
  · simp only [executing, h]
  · simp only [executing, h, writing, if_true]

/-- A job in the slot ends at its next boundary (R182). -/
theorem resetExecuting_inSlot (executing : s.lif.executing = some e) (stage : e.stage = .inSlot) (writing : labelWriting s = false) :
    resetExecuting s = boundary done { remnantState e s with txe := { s.txe with endPending := .linkReset } } := by
  rw [← makeRemnant_eq executing]
  simp only [resetExecuting, executing, stage, writing, Bool.false_eq_true, if_false]
  rw [makeRemnant_eq executing]
  rfl

theorem boundary_inField {f : State → Act} {o : SectorOp} (op : s.txe.op = some o) (field : o.phase = .transferring) : boundary f s = f s := by
  simp [boundary, atBoundary, op, field]

/-- An end that is pending is taken where no field is in flight (R181, R182). -/
theorem boundary_now (rests : atBoundary s = true) (pending : s.txe.endPending ≠ .no) (order : orderInSlot s = true) :
    boundary done s = endOrderJobPlain .aborted s := by
  have job : s.txe.job.isNone = false := by
    cases job : s.txe.job <;> simp_all [orderInSlot]
  simp [boundary, rests, pending, order, job, done]

/-- The state in which the job of an order without its tag has ended: there is no report. -/
abbrev remnantEnded (s : State) : State :=
  { s with
    txe := closedTxe s.txe, sgc := { closedSgc s.sgc with linkPort := .idle }
    lif := { s.lif with executing := none, loadImage := [], readImage := [], readIndex := 0, exchange := dropDataFrame s.lif.exchange } }

theorem endOrderJobPlain_remnant {o : Outcome} (executing : s.lif.executing = some e) (remnant : e.remnant = true) :
    endOrderJobPlain o s = ⟨remnantEnded s, [.slotFree, .dispatch, .slotIdle]⟩ := by
  simp [endOrderJobPlain, endOrderJob, endOrder, executing, remnant, closeJob_eq, linkRelease, send, State.modLif, State.modSgc]

end Reset

/-- Settles O33. -/
theorem linkResetEmptiesTheQueues : Obligations.LinkResetEmptiesTheQueues := by
  intro tag option e o s
  refine ⟨fun executing => ⟨?rests, fun low => ?answers⟩, fun executing => ⟨fun stage => ?drops, fun stage => ⟨fun stays => ?waits,
    fun kind carried => ?stop, fun kind => ?eject⟩, fun stage => ?runsOn, fun stage writing op field => ?field,
    fun stage writing rests order ready due orderWaits departure wanted => ?ends⟩⟩
  case rests => exact next_of_done (resetExecuting_none (by exact executing))
  case answers =>
    have act : immediate tag (resetAct tag) s = ⟨afterLinkReset s, [.statusReport tag none 0 noClear]⟩ :=
      (immediate_of_le low).trans (andThen_of (l := []) (resetExecuting_none (s := afterLinkReset (answered handAccept s)) (by exact executing)) rfl)
    refine leads_of (next_of_settle (settle_of act (drain_of rfl (drain_nil _ _)))) ?_
    and_intros <;> rfl
  case drops => exact next_of_done (resetExecuting_drops (s := afterLinkReset s) (by exact executing) stage)
  case waits =>
    exact next_of_done ((resetExecuting_carries (s := afterLinkReset s) (by exact executing) stage).trans (by rw [carry_of_stays stays]))
  case stop =>
    refine next_of_done ((resetExecuting_carries (s := afterLinkReset s) (by exact executing) stage).trans ?_)
    simp [carry, kind, carried, State.modCsq]
  case eject =>
    refine next_of_done ((resetExecuting_carries (s := afterLinkReset s) (by exact executing) stage).trans ?_)
    simp [carry, kind, State.modCsq]
  case runsOn => exact next_of_done (resetExecuting_runsOn (s := afterLinkReset s) (by exact executing) (by exact stage))
  case field =>
    exact next_of_done ((resetExecuting_inSlot (s := afterLinkReset s) (by exact executing) stage (by exact writing)).trans
      (boundary_inField (by exact op) field))
  case ends =>
    have act := (resetExecuting_inSlot (s := afterLinkReset s) (by exact executing) stage (by exact writing)).trans
      ((boundary_now (by exact rests) (by simp) (by exact order)).trans (endOrderJobPlain_remnant rfl rfl))
    refine leads_of (next_of_settle (settle_of act (drain_slotFree (by exact due) (by exact orderWaits) (by exact departure)
      (drain_dispatch (by rfl) (drain_slotIdle (by exact wanted) (drain_nil _ _)))))) ?_
    have held : heldBlocks (remnantEnded s) = heldBlocks s := by simp [heldBlocks]
    refine ⟨rfl, rfl, rfl, rfl, rfl, rfl, held, ?_⟩
    and_intros <;> rfl

end Sys2Proof.Machine

/-! ABORT and ABORT_ALL (R181). -/

namespace Sys2Proof.Machine

set_option Elab.async false

/-- The state once a STATUS_REPORT of the abort result has gone out (R173, R180). -/
abbrev reported (tag : Nat) (r : Option AbortResult) (removed : Nat) (s : State) : State := statusReportAct tag r removed noClear s

theorem statusAnswered_reported (tag : Nat) (r : Option AbortResult) (removed : Nat) (s : State) :
    StatusAnswered tag r removed (finish (reported tag r removed s)) := rfl

theorem drain_statusReport {n tag removed : Nat} {r : Option AbortResult} {s : State} :
    drain (n + 1) [.statusReport tag r removed noClear] s = reported tag r removed s := drain_of (m := []) rfl (drain_nil _ _)

/-- An order's job has ended with nothing waiting, and the report of the abort goes out last. -/
theorem drain_jobEnded_reported {n tag removed : Nat} {a : Option AbortResult} {r : Report} {s : State} (waits : NothingWaits s)
    (wanted : s.sgc.flushWanted = false) :
    drain (n + 5) [.slotFree, .orderEnded, .slotIdle, .statusReport tag a removed noClear] (jobEnded r s) =
      reported tag a removed (startFlushTimer (jobEnded r s)) := by
  obtain ⟨queue, -, due, order, departure⟩ := waits
  refine drain_slotFree due order departure (drain_orderEnded queue ?_)
  rw [startFlushTimer_eq]
  exact drain_slotIdle wanted drain_statusReport

section Abort

variable {tag victim : Nat} {e : Executing} {s : State}

theorem liveExecuting_of (executing : s.lif.executing = some e) (live : e.remnant = false) : liveExecuting s = some e := by
  simp [liveExecuting, executing, live]

theorem liveExecuting_none (noOrder : s.lif.executing = none) : liveExecuting s = none := by simp [liveExecuting, noOrder]

/-! ### Queued orders -/

theorem abortTag_queued {q : Order} (queue : s.lif.orderQueue = [q]) (named : q.tag = victim) :
    abortTag tag victim s = send (.statusReport tag (some .removed) 1 noClear)
      (startFlushTimer { s with lif := { s.lif with orderQueue := [], reports := s.lif.reports ++ [removedReport s q] } }) := by
  simp [abortTag, queue, named, State.modLif]

theorem abortTag_unknown (queue : s.lif.orderQueue = []) (noOrder : s.lif.executing = none) (reports : ∀ r ∈ s.lif.reports, r.tag ≠ victim) :
    abortTag tag victim s = send (.statusReport tag (some .unknown) 0 noClear) s := by
  have unused : s.lif.reports.any (fun r => r.tag == victim) = false := by simpa using reports
  simp [abortTag, queue, liveExecuting_none noOrder, unused]

/-- The removal of the queued orders leaves a report for each, and may start the flush delay (R142, R181). -/
theorem removeQueued_eq (s : State) : ∃ timer, removeQueued s =
    { s with
      lif := { s.lif with orderQueue := [], reports := s.lif.reports ++ s.lif.orderQueue.map (removedReport s) }
      sgc := { s.sgc with flushTimer := timer } } := by
  unfold removeQueued
  dsimp only
  split
  · exact ⟨_, rfl⟩
  · rw [startFlushTimer_eq]
    exact ⟨_, rfl⟩

theorem abortEvery_quiet (noOrder : s.lif.executing = none) :
    abortEvery tag s = send (.statusReport tag none s.lif.orderQueue.length noClear) (removeQueued s) := by
  simp [abortEvery, liveExecuting_none noOrder]

/-! ### The executing order -/

theorem abortTag_executing {l : List Signal} {t : State} {r : AbortResult} (executing : s.lif.executing = some e) (live : e.remnant = false)
    (named : e.order.tag = victim) (queue : s.lif.orderQueue = []) (ends : abortExecuting e s = (⟨t, l⟩, r)) :
    abortTag tag victim s = ⟨t, l ++ [.statusReport tag (some r) 0 noClear]⟩ := by
  have found : (liveExecuting s).filter (fun e => e.order.tag == victim) = some e := by simp [liveExecuting_of executing live, named]
  simp only [abortTag, queue, List.find?_nil, found, ends]
  rfl

theorem abortEvery_executing {l : List Signal} {t : State} {r : AbortResult} (executing : s.lif.executing = some e) (live : e.remnant = false)
    (ends : abortExecuting e s = (⟨t, l⟩, r)) :
    abortEvery tag s = ⟨removeQueued t, l ++ [.statusReport tag (some r) s.lif.orderQueue.length noClear]⟩ := by
  simp only [abortEvery, liveExecuting_of executing live, ends]
  rfl

theorem abortExecuting_start (kind : e.order.kind = .start) : abortExecuting e s = (done s, .notAbortable) := by simp [abortExecuting, kind]

/-- The orders that an ABORT does not end (R181). -/
theorem abortExecuting_not {option : Nat} (kept : e.order.kind = .start ∨ e.order.kind = .stop ∨
    (e.order.kind = .eject option ∧ (s.csq.lifecycle ≠ .eject ∨ s.csq.ejectRound = .first)) ∨
    (e.order.kind = .calibrate ∧ e.stage = .waitPass) ∨ (e.order.kind = .commitLabel option ∧ e.stage = .inSlot ∧ labelBegun s = true)) :
    abortExecuting e s = (done s, .notAbortable) := by
  rcases kept with kind | kind | ⟨kind, first⟩ | ⟨kind, stage⟩ | ⟨kind, stage, begun⟩
  · exact abortExecuting_start kind
  · simp [abortExecuting, kind]
  · have first : ¬ (s.csq.lifecycle = .eject ∧ s.csq.ejectRound = .retry) := by
      rcases first with elsewhere | first <;> simp_all
    simp only [abortExecuting, kind, if_neg first]
  · simp [abortExecuting, kind, stage]
  · simp [abortExecuting, abortInSlot, kind, stage, begun]

section Others

variable (notStart : e.order.kind ≠ .start) (stays : e.order.kind.leaves = false)
include notStart stays

theorem abortExecuting_now (stage : e.stage = .waitStart ∨ e.stage = .gathering ∨ e.stage = .offering) :
    abortExecuting e s = (endPlain .aborted s, .ending) := by
  unfold abortExecuting
  split
  · exact absurd ‹_› notStart
  · simp_all [OrderKind.leaves]
  · simp_all [OrderKind.leaves]
  · rcases stage with h | h | h <;> simp only [h]

theorem abortExecuting_inSlot (stage : e.stage = .inSlot) (begun : labelBegun s = false) :
    abortExecuting e s = (boundary done { s with txe := { s.txe with endPending := .abort } }, .ending) := by
  have slot : abortInSlot s = (boundary done { s with txe := { s.txe with endPending := .abort } }, .ending) := if_neg (by simp [begun])
  unfold abortExecuting
  split
  · exact absurd ‹_› notStart
  · simp_all [OrderKind.leaves]
  · simp_all [OrderKind.leaves]
  · simp only [stage, slot]

end Others

theorem abortExecuting_retry {option : Nat} (kind : e.order.kind = .eject option) (eject : s.csq.lifecycle = .eject) (retry : s.csq.ejectRound = .retry) :
    abortExecuting e s = (stopRetryRound s, .ending) := by
  simp [abortExecuting, kind, eject, retry]

end Abort

/-- Settles O35. -/
theorem abortEndsOrders : Obligations.AbortEndsOrders := by
  intro tag victim option q e o s low
  have now : ∀ f, immediate tag f s = f (answered handAccept s) := fun f => immediate_of_le low
  refine ⟨fun noOrder => ⟨fun queue named => ?removed, fun queue reports => ?unknown, ?all⟩, fun executing live named queue =>
    ⟨fun kept => ?kept, fun notStart stays stage => ?now, fun notStart stays stage begun => ⟨fun op field => ?field,
      fun rests order waits wanted => ?boundary⟩, fun kind eject retry => ?retry⟩, fun executing live start => ?start⟩
  case removed =>
    refine leads_of (next_of_settle (settle_of ((now _).trans (abortTag_queued (by exact queue) named)) drain_statusReport)) ?_
    rw [startFlushTimer_eq]
    refine ⟨rfl, ?_, statusAnswered_reported _ _ _ _, ?_⟩
    · exact named ▸ rfl
    · and_intros <;> rfl
  case unknown =>
    refine leads_of (next_of_settle (settle_of ((now _).trans (abortTag_unknown (by exact queue) (by exact noOrder) (by exact reports)))
      drain_statusReport)) ?_
    refine ⟨queue, rfl, statusAnswered_reported _ _ _ _, ?_⟩
    and_intros <;> rfl
  case all =>
    obtain ⟨timer, removed⟩ := removeQueued_eq (answered handAccept s)
    refine leads_of (next_of_settle (settle_of ((now _).trans (abortEvery_quiet (by exact noOrder))) drain_statusReport)) ?_
    rw [removed]
    refine ⟨rfl, rfl, statusAnswered_reported _ _ _ _, ?_⟩
    and_intros <;> rfl
  case kept =>
    refine leads_of (next_of_settle (settle_of ((now _).trans (abortTag_executing (by exact executing) live named (by exact queue)
      (abortExecuting_not kept))) drain_statusReport)) ?_
    refine ⟨statusAnswered_reported _ _ _ _, executing, ?_⟩
    and_intros <;> rfl
  case now =>
    have act := (now _).trans (abortTag_executing (tag := tag) (s := answered handAccept s) (by exact executing) live named (by exact queue)
      ((abortExecuting_now notStart stays stage).trans (congrArg (·, _) (endPlain_live (by exact executing) live))))
    refine leads_of (next_of_settle (settle_of act (drain_orderEnded (by exact queue) drain_statusReport))) ?_
    rw [startFlushTimer_eq]
    refine ⟨statusAnswered_reported _ _ _ _, rfl, ?_⟩
    rw [← named]
    and_intros <;> rfl
  case field =>
    have act := (now _).trans (abortTag_executing (tag := tag) (s := answered handAccept s) (by exact executing) live named (by exact queue)
      ((abortExecuting_inSlot notStart stays stage (by exact begun)).trans (congrArg (·, _) (boundary_inField (by exact op) field))))
    refine leads_of (next_of_settle (settle_of act drain_statusReport)) ?_
    refine ⟨statusAnswered_reported _ _ _ _, executing, ?_⟩
    and_intros <;> rfl
  case boundary =>
    have act := (now _).trans (abortTag_executing (tag := tag) (s := answered handAccept s) (by exact executing) live named (by exact queue)
      ((abortExecuting_inSlot notStart stays stage (by exact begun)).trans (congrArg (·, _) ((boundary_now (by exact rests) (by simp) (by exact order)).trans
        ((endOrderJobPlain_of (by exact executing)).trans (endOrderJob_live (by exact executing) live))))))
    refine leads_of (next_of_settle (settle_of act (drain_jobEnded_reported (by exact waits) (by exact wanted)))) ?_
    obtain ⟨-, ready, -, -, -⟩ := waits
    have held : heldBlocks (remnantEnded s) = heldBlocks s := by simp [heldBlocks]
    rw [startFlushTimer_eq, ← named, ← ready]
    refine ⟨statusAnswered_reported _ _ _ _, rfl, rfl, rfl, rfl, held, ?_⟩
    and_intros <;> rfl
  case retry =>
    have act := (now _).trans (abortTag_executing (tag := tag) (s := answered handAccept s) (by exact executing) live named (by exact queue)
      ((abortExecuting_retry kind (by exact eject) (by exact retry)).trans (congrArg (·, _) (endPlain_live (by exact executing) live))))
    have detail : Detail.noDetail = e.order.kind.detail := by rw [kind]; rfl
    refine leads_of (next_of_settle (settle_of act (drain_orderEnded (by exact queue) drain_statusReport))) ?_
    rw [startFlushTimer_eq, ← named, detail, ← kind]
    refine ⟨statusAnswered_reported _ _ _ _, rfl, rfl, rfl, ?_⟩
    and_intros <;> rfl
  case start =>
    obtain ⟨timer, removed⟩ := removeQueued_eq (answered handAccept s)
    refine leads_of (next_of_settle (settle_of ((now _).trans (abortEvery_executing (by exact executing) live (abortExecuting_start start)))
      drain_statusReport)) ?_
    rw [removed]
    refine ⟨statusAnswered_reported _ _ _ _, executing, ?_⟩
    and_intros <;> rfl

end Sys2Proof.Machine

/-! Monitor readings (R93, R159 to R168). -/

namespace Sys2Proof.Machine

set_option Elab.async false

/-! ### Channels -/

@[simp] theorem channel_modChannel (c : Channel) (f : ChannelRecord → ChannelRecord) (s : State) :
    channel (modChannel c f s) c = f (channel s c) := by cases c <;> rfl

theorem modChannel_congr {c : Channel} {f g : ChannelRecord → ChannelRecord} {s : State} (same : f (channel s c) = g (channel s c)) :
    modChannel c f s = modChannel c g s := by
  cases c <;> simp only [channel] at same <;> simp only [modChannel, State.modSmn, same]

theorem gateShut_of {c : Channel} {s : State} (shuts : (channel s c).action = .park ∨ (channel s c).action = .retract) : gateShut s = true := by
  have listed : c ∈ channels := by cases c <;> decide
  exact List.any_eq_true.mpr ⟨c, listed, by rcases shuts with park | retract <;> simp [*]⟩

theorem writeHold_of {c : Channel} {s : State} (holds : (channel s c).action = .holdWrites) : writeHold s = true := by
  have listed : c ∈ channels := by cases c <;> decide
  exact List.any_eq_true.mpr ⟨c, listed, by simp [holds]⟩

section Quiet

variable {s : State} (rests : ∀ c, (channel s c).active = .neither)
include rests

theorem action_of_quiet (c : Channel) : (channel s c).action = .noAction := by simp [ChannelRecord.action, rests c]

theorem gateShut_of_quiet : gateShut s = false := by simp [gateShut, channels, action_of_quiet rests]

theorem writeHold_of_quiet : writeHold s = false := by simp [writeHold, channels, action_of_quiet rests]

end Quiet

/-! ### The comparison of a reading -/

section Side

variable {l : Limits} {reading : Nat}

theorem sideOf_inRange (low : l.low ≤ reading) (high : reading ≤ l.high) : sideOf l reading = .neither := by
  simp [sideOf, Nat.not_lt.mpr low, Nat.not_lt.mpr high]

theorem sideOf_low (below : reading < l.low) (acts : l.lowAction ≠ .noAction) : sideOf l reading = .low := if_pos ⟨below, acts⟩

theorem sideOf_high (low : l.low ≤ reading) (above : l.high < reading) (acts : l.highAction ≠ .noAction) : sideOf l reading = .high :=
  (if_neg fun ⟨below, _⟩ => Nat.not_lt.mpr low below).trans (if_pos ⟨above, acts⟩)

end Side

/-- A reading in range recorded: it ends the run (R161). -/
abbrev heard (reading : Nat) (r : ChannelRecord) : ChannelRecord := { r with latest := reading, runSide := .neither, runCount := 0 }

section Compare

variable {c : Channel} {reading : Nat} {s : State}

theorem compareReading_unarmed (unarmed : armedIn (channel s c).limits.armed s.csq.lifecycle = false) (rests : (channel s c).active = .neither) :
    compareReading c reading s = done (modChannel c (fun r => { heard reading r with inRange := 0 }) s) := by
  unfold compareReading endIfActive
  dsimp only
  rw [modChannel_modChannel, if_neg (by rw [channel_modChannel]; exact Bool.eq_false_iff.mp unarmed), if_pos (by rw [channel_modChannel]; exact rests)]
  rfl

section Armed

variable (armed : armedIn (channel s c).limits.armed s.csq.lifecycle = true)
include armed

theorem compareReading_armed : compareReading c reading s =
    armedReading c (sideOf (channel s c).limits reading) (modChannel c (fun r => { r with latest := reading }) s) := by
  unfold compareReading
  dsimp only
  rw [channel_modChannel]
  exact if_pos armed

theorem compareReading_inRange (low : (channel s c).limits.low ≤ reading) (high : reading ≤ (channel s c).limits.high) :
    compareReading c reading s = countInRange c .neither (modChannel c (heard reading) s) := by
  rw [compareReading_armed armed, sideOf_inRange low high]
  unfold armedReading
  dsimp only
  rw [modChannel_modChannel, if_neg (by simp [activates])]
  exact congrArg _ (modChannel_congr rfl)

/-- A reading that completes a run activates the condition of its side (R163). -/
theorem compareReading_crosses {x : Side} {q : ChannelRecord} (side : sideOf (channel s c).limits reading = x) (crossed : x ≠ .neither)
    (rests : (channel s c).active = .neither) (run : ChannelRecord.run x { channel s c with latest := reading } = q)
    (full : persistenceOf (channel s c).limits x ≤ q.runCount) : compareReading c reading s = activate c x (modChannel c (fun _ => q) s) := by
  have kept : q.limits = (channel s c).limits ∧ q.active = (channel s c).active := by
    subst run
    unfold ChannelRecord.run
    split
    · exact ⟨rfl, rfl⟩
    · split <;> exact ⟨rfl, rfl⟩
  rw [compareReading_armed armed, side]
  unfold armedReading
  dsimp only
  rw [modChannel_modChannel, modChannel_congr (g := fun _ => q) run, channel_modChannel]
  exact if_pos (by simp [activates, crossed, kept, full, rests, Ne.symm crossed])

end Armed

theorem countInRange_rests (rests : (channel s c).active = .neither) : countInRange c .neither s = done s := if_pos rests

theorem countInRange_counts (active : (channel s c).active ≠ .neither) (first : (channel s c).inRange = 0) :
    countInRange c .neither s = done (modChannel c (fun r => { r with inRange := 1 }) s) := by
  have counts : countInRange c .neither s = done (modChannel c (fun r => { r with inRange := r.inRange + 1 }) s) := by
    simp [countInRange, active, first]
  rw [counts]
  exact congrArg done (modChannel_congr (by simp [first]))

theorem countInRange_ends (active : (channel s c).active ≠ .neither) (second : (channel s c).inRange = 1) :
    countInRange c .neither s = endCondition c s := by simp [countInRange, active, second]

/-! ### The action of a condition -/

/-- The state in which a condition has become active (R164). -/
abbrev activated (c : Channel) (x : Side) (s : State) : State :=
  latch .monitor (modChannel c (fun r => { r.flag x with active := x, inRange := 0 }) s)

section Activates

variable {x : Side} (rests : (channel s c).active = .neither)
include rests

theorem activate_holds (action : (channel (activated c x s) c).action = .holdWrites) :
    activate c x s = mediaWatch (latch .writeHold (activated c x s)) := by
  have idle : endIfActive c s = done s := if_pos rests
  unfold activate
  rw [idle, done_andThen]
  simp only [action]

theorem activate_parks (action : (channel (activated c x s) c).action = .park) : activate c x s = send .park (activated c x s) := by
  have idle : endIfActive c s = done s := if_pos rests
  unfold activate
  rw [idle, done_andThen]
  simp only [action]

theorem activate_retracts (action : (channel (activated c x s) c).action = .retract) : activate c x s = send .retract (activated c x s) := by
  have idle : endIfActive c s = done s := if_pos rests
  unfold activate
  rw [idle, done_andThen]
  simp only [action]

end Activates

end Compare

end Sys2Proof.Machine

/-! A monitor reading as a whole: the comparison, the drift of the temperature, the first round (R9, R93, R160). -/

namespace Sys2Proof.Machine

set_option Elab.async false

section Ends

variable {c : Channel} {s : State}

/-- The state in which a channel's condition has ended (R165). -/
abbrev relieved (c : Channel) (s : State) : State := modChannel c (fun r => { r with active := .neither, inRange := 0 }) s

theorem endCondition_holds (action : (channel s c).action = .holdWrites) (last : writeHold (relieved c s) = false)
    (departure : s.sgc.heldDeparture = false) : endCondition c s = done (holdingAt none (relieved c s)) := by
  have ends : holdEndedAct (relieved c s) = done (holdingAt none (relieved c s)) :=
    if_neg fun ⟨held, _⟩ => nomatch departure ▸ (show s.sgc.heldDeparture = true from held)
  unfold endCondition
  simp only [action]
  rw [if_neg (by rw [last]; exact Bool.false_ne_true)]
  exact ends

theorem endCondition_retracts (action : (channel s c).action = .retract) : endCondition c s = done (spinGateCheck (relieved c s)) := by
  unfold endCondition
  simp only [action]

end Ends

section Reading

variable {c : Channel} {reading : Nat} {s t : State}

theorem driftCheck_rests (still : c = .temp → t.csq.lifecycle ≠ .ready ∨ drifted reading t.svc.cal.temperature = false ∨ t.svc.cal.due = true) :
    driftCheck c reading t = done t := by
  refine if_neg fun ⟨temp, ready, drifts, due⟩ => ?_
  rcases still temp with elsewhere | near | already
  · exact elsewhere ready
  · exact nomatch near ▸ drifts
  · exact nomatch due.symm.trans already

theorem completeRound_rests (round : c = .iact → t.smn.roundComplete = true) : completeRound c t = done t :=
  if_neg fun ⟨iact, first⟩ => nomatch first.symm.trans (round iact)

/-- A reading does what its comparison does where neither the drift nor the first round matters. -/
theorem reading_compares {l : List Signal} (slot : s.smn.slot = c) (compare : compareReading c reading (nextSlot s) = ⟨t, l⟩)
    (still : c = .temp → t.csq.lifecycle ≠ .ready ∨ drifted reading t.svc.cal.temperature = false ∨ t.svc.cal.due = true)
    (round : c = .iact → t.smn.roundComplete = true) : monitorReadingAct reading s = ⟨t, l⟩ := by
  have act := andThen_of (andThen_of compare (driftCheck_rests still)) (completeRound_rests round)
  rw [List.append_nil, List.append_nil] at act
  subst slot
  exact act

theorem next_reading (slot : s.smn.slot = c) (compare : compareReading c reading (nextSlot s) = done t)
    (still : c = .temp → t.csq.lifecycle ≠ .ready ∨ drifted reading t.svc.cal.temperature = false ∨ t.svc.cal.due = true)
    (round : c = .iact → t.smn.roundComplete = true) : exec (.monitorReading reading) s = .next (finish t) :=
  next_of_done (reading_compares slot compare still round)

/-- A temperature that has drifted makes calibration due (R93). -/
theorem reading_drifts (slot : s.smn.slot = .temp) (compare : compareReading .temp reading (nextSlot s) = done t) (ready : t.csq.lifecycle = .ready)
    (drifts : drifted reading t.svc.cal.temperature = true) (due : t.svc.cal.due = false) :
    monitorReadingAct reading s = ⟨{ t with svc := { t.svc with cal := { t.svc.cal with due := true } } }, [.calibrationDue]⟩ := by
  have drift : driftCheck .temp reading t = ⟨{ t with svc := { t.svc with cal := { t.svc.cal with due := true } } }, [.calibrationDue]⟩ :=
    if_pos ⟨rfl, ready, drifts, due⟩
  have act := andThen_of (andThen_of compare drift) (completeRound_rests (c := .temp) Channel.noConfusion)
  unfold monitorReadingAct
  rw [slot]
  exact act

/-- The first IACT reading completes the round (R9). -/
theorem reading_completes (slot : s.smn.slot = .iact) (compare : compareReading .iact reading (nextSlot s) = done t)
    (first : t.smn.roundComplete = false) :
    monitorReadingAct reading s = ⟨{ t with smn := { t.smn with roundComplete := true } }, [.gateCheck]⟩ := by
  have round : completeRound .iact t = ⟨{ t with smn := { t.smn with roundComplete := true } }, [.gateCheck]⟩ := if_pos ⟨rfl, first⟩
  have act := andThen_of (andThen_of compare (driftCheck_rests (c := .iact) (reading := reading) Channel.noConfusion)) round
  unfold monitorReadingAct
  rw [slot]
  exact act

theorem modChannel_roundComplete (c : Channel) (f : ChannelRecord → ChannelRecord) (s : State) :
    (modChannel c f s).smn.roundComplete = s.smn.roundComplete := by cases c <;> rfl

end Reading

theorem channel_nextSlot (c : Channel) (s : State) : channel (nextSlot s) c = channel s c := by cases c <;> rfl

theorem armedIn_ready (a : ArmedSet) : armedIn a .ready = true := by cases a <;> rfl

theorem parkAct_departs {s : State} (ready : s.csq.lifecycle = .ready) : parkAct s = departureAct (departed .park s.csq s) := by
  unfold parkAct
  rw [ready]
  rfl

theorem drifted_of {x reading : Nat} (far : x + 8 ≤ reading ∨ reading + 8 ≤ x) : drifted reading (some x) = true := by simpa [drifted] using far

/-- A record with the run of a side at a count. -/
abbrev onRun (reading : Nat) (x : Side) (n : Nat) (r : ChannelRecord) : ChannelRecord := { r with latest := reading, runSide := x, runCount := n }

section Runs

variable {reading : Nat} {x : Side} {r : ChannelRecord}

theorem run_begins (crossed : x ≠ .neither) (rests : r.runSide = .neither) : ChannelRecord.run x { r with latest := reading } = onRun reading x 1 r := by
  have fresh : ¬ x = r.runSide := rests ▸ crossed
  simp [ChannelRecord.run, crossed, fresh]

theorem run_goesOn {n : Nat} (crossed : x ≠ .neither) (side : r.runSide = x) (count : min (persistenceOf r.limits x) (r.runCount + 1) = n) :
    ChannelRecord.run x { r with latest := reading } = onRun reading x n r := by
  simp [ChannelRecord.run, crossed, side, count]

/-- The record of a condition that a reading below the low limit has activated (R164). -/
abbrev trippedLow (reading n : Nat) (r : ChannelRecord) : ChannelRecord :=
  { r with latest := reading, runSide := .low, runCount := n, active := .low, inRange := 0, lowFault := true }

/-- The record of a condition that a reading above the high limit has activated (R164). -/
abbrev trippedHigh (reading n : Nat) (r : ChannelRecord) : ChannelRecord :=
  { r with latest := reading, runSide := .high, runCount := n, active := .high, inRange := 0, highFault := true }

theorem trippedHigh_again {n : Nat} (side : r.runSide = .high) :
    trippedHigh reading n r = { r with latest := reading, runCount := n, active := .high, inRange := 0, highFault := true } := by
  unfold trippedHigh
  rw [← side]

theorem action_low {a : MonAction} (active : r.active = .low) (acts : r.limits.lowAction = a) : r.action = a := by simp [ChannelRecord.action, *]

theorem action_high {a : MonAction} (active : r.active = .high) (acts : r.limits.highAction = a) : r.action = a := by simp [ChannelRecord.action, *]

theorem activated_below {n : Nat} (c : Channel) (s : State) :
    activated c .low (modChannel c (onRun reading .low n) s) = latch .monitor (modChannel c (trippedLow reading n) s) := by
  unfold activated
  rw [modChannel_modChannel]
  exact congrArg _ (modChannel_congr (by simp [ChannelRecord.flag]))

theorem activated_above {n : Nat} (c : Channel) (s : State) :
    activated c .high (modChannel c (onRun reading .high n) s) = latch .monitor (modChannel c (trippedHigh reading n) s) := by
  unfold activated
  rw [modChannel_modChannel]
  exact congrArg _ (modChannel_congr (by simp [ChannelRecord.flag]))

/-- A run completed below the low limit (R161, R163). -/
theorem compareReading_below {n : Nat} {c : Channel} {s : State} (armed : armedIn (channel s c).limits.armed s.csq.lifecycle = true)
    (rests : (channel s c).active = .neither) (below : reading < (channel s c).limits.low) (acts : (channel s c).limits.lowAction ≠ .noAction)
    (run : ChannelRecord.run .low { channel s c with latest := reading } = onRun reading .low n (channel s c))
    (full : (channel s c).limits.lowPersistence ≤ n) :
    compareReading c reading s = activate c .low (modChannel c (onRun reading .low n) s) :=
  (compareReading_crosses armed (sideOf_low below acts) Side.noConfusion rests run full).trans (congrArg _ (modChannel_congr rfl))

/-- A run completed above the high limit (R161, R163). -/
theorem compareReading_above {n : Nat} {c : Channel} {s : State} (armed : armedIn (channel s c).limits.armed s.csq.lifecycle = true)
    (rests : (channel s c).active = .neither) (low : (channel s c).limits.low ≤ reading) (above : (channel s c).limits.high < reading)
    (acts : (channel s c).limits.highAction ≠ .noAction)
    (run : ChannelRecord.run .high { channel s c with latest := reading } = onRun reading .high n (channel s c))
    (full : (channel s c).limits.highPersistence ≤ n) :
    compareReading c reading s = activate c .high (modChannel c (onRun reading .high n) s) :=
  (compareReading_crosses armed (sideOf_high low above acts) Side.noConfusion rests run full).trans (congrArg _ (modChannel_congr rfl))

end Runs

/-- The state with two notices latched. -/
abbrev noticed (a b : Word16) (s : State) : State := { s with lif := { s.lif with notices := (s.lif.notices ||| a) ||| b } }

theorem latch_latch (s : State) : latch .writeHold (latch .monitor s) = noticed 256#16 512#16 s := rfl

theorem gateAllowed_of_hold {s : State} (hold : writeHold s = true) : gateAllowed s = false := by simp [gateAllowed, hold]

theorem requestYield_order {j : Job} {s : State} (job : s.txe.job = some j) (order : j.kind = .order) : requestYield s = done s := by
  simp [requestYield, slotYields, job, Job.yields, order]

theorem calibrationCheck_order {j : Job} {s : State} (job : s.txe.job = some j) (order : j.kind = .order) : calibrationCheck s = done s := by
  simp [calibrationCheck, job, requestYield_order job order]

theorem retractAct_rests {s : State} (stopped : s.csq.lifecycle = .stopped) : retractAct s = done s := by
  unfold retractAct
  rw [stopped]

/-- Where the drift and the first round have no say. -/
theorem slot_plain {reading : Nat} {s : State} (slot : s.smn.slot = .v12 ∨ s.smn.slot = .v5 ∨ s.smn.slot = .ispin ∨
      (s.smn.slot = .iact ∧ s.smn.roundComplete = true) ∨
      (s.smn.slot = .temp ∧ (s.csq.lifecycle ≠ .ready ∨ drifted reading s.svc.cal.temperature = false ∨ s.svc.cal.due = true))) :
    (s.smn.slot = .temp → s.csq.lifecycle ≠ .ready ∨ drifted reading s.svc.cal.temperature = false ∨ s.svc.cal.due = true) ∧
      (s.smn.slot = .iact → s.smn.roundComplete = true) := by
  rcases slot with h | h | h | ⟨h, round⟩ | ⟨h, still⟩ <;> simp [*]

/-! ### The readings by what they do -/

section Does

variable {reading : Nat} {s : State}

section InRange

variable {c : Channel} (armed : (channel s c).limits.armed = .always) (low : (channel s c).limits.low ≤ reading)
  (high : reading ≤ (channel s c).limits.high)
include armed low high

theorem compareReading_records (rests : (channel s c).active = .neither) :
    compareReading c reading (nextSlot s) = done (modChannel c (heard reading) (nextSlot s)) :=
  (compareReading_inRange (by rw [channel_nextSlot, armed]; rfl) (by rwa [channel_nextSlot]) (by rwa [channel_nextSlot])).trans
    (countInRange_rests (by rwa [channel_modChannel, channel_nextSlot]))

theorem compareReading_counts (active : (channel s c).active ≠ .neither) (first : (channel s c).inRange = 0) :
    compareReading c reading (nextSlot s) = done (modChannel c (fun r => { heard reading r with inRange := 1 }) (nextSlot s)) := by
  rw [compareReading_inRange (by rw [channel_nextSlot, armed]; rfl) (by rwa [channel_nextSlot]) (by rwa [channel_nextSlot]),
    countInRange_counts (by rwa [channel_modChannel, channel_nextSlot]) (by rwa [channel_modChannel, channel_nextSlot]), modChannel_modChannel]
  rfl

end InRange

theorem v5_retracts (slot : s.smn.slot = .v5) (stopped : s.csq.lifecycle = .stopped) (armed : s.smn.v5.limits.armed = .always)
    (rests : s.smn.v5.active = .neither) (action : s.smn.v5.limits.lowAction = .retract) (persistence : s.smn.v5.limits.lowPersistence = 1)
    (run : s.smn.v5.runSide = .neither) (below : reading < s.smn.v5.limits.low) :
    settle (monitorReadingAct reading s) = finish (latch .monitor (modChannel .v5 (trippedLow reading 1) (nextSlot s))) := by
  have compare := (compareReading_below (c := .v5) (s := nextSlot s) (armed ▸ rfl) rests below (action ▸ nofun) (run_begins nofun run)
    persistence.le).trans (activate_retracts (by exact rests) (by exact action))
  rw [activated_below] at compare
  exact settle_of (reading_compares slot compare nofun nofun) (drain_of (retractAct_rests (by exact stopped)) (drain_nil _ _))

theorem temp_holds (armed : s.smn.temp.limits.armed = .always) (rests : s.smn.temp.active = .neither)
    (action : s.smn.temp.limits.highAction = .holdWrites) (persistence : s.smn.temp.limits.highPersistence = 4) (side : s.smn.temp.runSide = .high)
    (run : s.smn.temp.runCount = 3) (low : s.smn.temp.limits.low ≤ reading) (above : s.smn.temp.limits.high < reading) :
    compareReading .temp reading (nextSlot s) =
      mediaWatch (noticed 256#16 512#16 (modChannel .temp (trippedHigh reading 4) (nextSlot s))) := by
  have count : min s.smn.temp.limits.highPersistence (s.smn.temp.runCount + 1) = 4 := by rw [persistence, run]; rfl
  have compare := (compareReading_above (c := .temp) (n := 4) (s := nextSlot s) (armed ▸ rfl) rests low above (action ▸ nofun)
    (run_goesOn nofun side count) persistence.le).trans (activate_holds (by exact rests) (by exact action))
  rwa [activated_above, latch_latch] at compare

theorem ispin_parks {j : Job} (slot : s.smn.slot = .ispin) (ready : s.csq.lifecycle = .ready) (noPass : passTag s = none) (job : s.txe.job = some j)
    (order : j.kind = .order) (rests : s.smn.ispin.active = .neither) (action : s.smn.ispin.limits.highAction = .park)
    (persistence : s.smn.ispin.limits.highPersistence = 1) (run : s.smn.ispin.runSide = .neither) (low : s.smn.ispin.limits.low ≤ reading)
    (above : s.smn.ispin.limits.high < reading) :
    settle (monitorReadingAct reading s) = finish { departed .park s.csq (latch .monitor (modChannel .ispin (trippedHigh reading 1) (nextSlot s))) with
      txe := { s.txe with departureWaits := true } } := by
  have armed : armedIn s.smn.ispin.limits.armed s.csq.lifecycle = true := ready ▸ armedIn_ready _
  have compare := (compareReading_above (c := .ispin) (s := nextSlot s) armed rests low above (action ▸ nofun) (run_begins nofun run)
    persistence.le).trans (activate_parks (by exact rests) (by exact action))
  rw [activated_above] at compare
  exact settle_of (reading_compares slot compare nofun nofun)
    (drain_of ((parkAct_departs (by exact ready)).trans (departureAct_order noPass job order)) (drain_nil _ _))

/-- Every condition has ended once the condition of the only channel that had one has (R165). -/
theorem clear_relieved {c : Channel} (others : ∀ d, d ≠ c → (channel s d).active = .neither) (d : Channel) :
    (channel (relieved c (modChannel c (heard reading) (nextSlot s))) d).active = .neither := by
  by_cases same : d = c
  · subst same
    simp
  · have kept := others d same
    cases c <;> cases d <;> first | exact kept | exact absurd rfl same

theorem temp_relieved (slot : s.smn.slot = .temp) (elsewhere : s.csq.lifecycle ≠ .ready) (armed : s.smn.temp.limits.armed = .always)
    (active : s.smn.temp.active = .high) (holds : s.smn.temp.action = .holdWrites) (second : s.smn.temp.inRange = 1)
    (low : s.smn.temp.limits.low ≤ reading) (high : reading ≤ s.smn.temp.limits.high)
    (clear : ∀ d, (channel (relieved .temp (modChannel .temp (heard reading) (nextSlot s))) d).active = .neither)
    (departure : s.sgc.heldDeparture = false) :
    exec (.monitorReading reading) s =
      .next (finish (holdingAt none (relieved .temp (modChannel .temp (heard reading) (nextSlot s))))) := by
  have compare := (compareReading_inRange (c := .temp) (s := nextSlot s) (armed ▸ rfl) low high).trans ((countInRange_ends
    (by exact active ▸ nofun) (by exact second)).trans (endCondition_holds (by exact holds) (writeHold_of_quiet clear) (by exact departure)))
  exact next_reading slot compare (fun _ => .inl elsewhere) nofun

theorem v5_opens (slot : s.smn.slot = .v5) (stopped : s.csq.lifecycle = .stopped) (request : s.csq.spinUpRequest = true)
    (round : s.smn.roundComplete = true) (still : s.spc.state = .still) (armed : s.smn.v5.limits.armed = .always) (active : s.smn.v5.active = .low)
    (shuts : s.smn.v5.action = .retract) (second : s.smn.v5.inRange = 1) (low : s.smn.v5.limits.low ≤ reading) (high : reading ≤ s.smn.v5.limits.high)
    (clear : ∀ d, (channel (relieved .v5 (modChannel .v5 (heard reading) (nextSlot s))) d).active = .neither) :
    exec (.monitorReading reading) s = .next (finish (spunUp (relieved .v5 (modChannel .v5 (heard reading) (nextSlot s))))) := by
  have compare := (compareReading_inRange (c := .v5) (s := nextSlot s) (armed ▸ rfl) low high).trans ((countInRange_ends
    (by exact active ▸ nofun) (by exact second)).trans ((endCondition_retracts (by exact shuts)).trans (congrArg done (spinGateCheck_open
    (by exact stopped) (by exact request) (by exact round) (gateShut_of_quiet clear) (by exact still)))))
  exact next_reading slot compare nofun nofun

/-- The state in which a drifted temperature has been recorded and calibration is due. -/
abbrev driftedState (reading : Nat) (s : State) : State :=
  { modChannel .temp (heard reading) (nextSlot s) with svc := { s.svc with cal := { s.svc.cal with due := true } } }

theorem temp_drifts {x : Nat} (slot : s.smn.slot = .temp) (ready : s.csq.lifecycle = .ready) (rests : s.smn.temp.active = .neither)
    (low : s.smn.temp.limits.low ≤ reading) (high : reading ≤ s.smn.temp.limits.high) (temperature : s.svc.cal.temperature = some x)
    (far : x + 8 ≤ reading ∨ reading + 8 ≤ x) (due : s.svc.cal.due = false) :
    monitorReadingAct reading s = ⟨driftedState reading s, [.calibrationDue]⟩ := by
  have drifts : drifted reading s.svc.cal.temperature = true := by
    rw [temperature]
    exact drifted_of far
  have compare := (compareReading_inRange (c := .temp) (s := nextSlot s) (ready ▸ armedIn_ready _) low high).trans
    (countInRange_rests (by exact rests))
  exact reading_drifts slot compare (by exact ready) (by exact drifts) (by exact due)

/-- An IACT reading recorded with its channel armed or not. -/
abbrev iactHeard (reading : Nat) (s : State) : State :=
  { modChannel .iact (fun r => { heard reading r with inRange := if armedIn r.limits.armed s.csq.lifecycle then r.inRange else 0 }) (nextSlot s) with
    smn := { (modChannel .iact (fun r => { heard reading r with inRange := if armedIn r.limits.armed s.csq.lifecycle then r.inRange else 0 })
      (nextSlot s)).smn with roundComplete := true } }

theorem iact_completes (slot : s.smn.slot = .iact) (first : s.smn.roundComplete = false) (rests : s.smn.iact.active = .neither)
    (inRange : armedIn s.smn.iact.limits.armed s.csq.lifecycle = true → s.smn.iact.limits.low ≤ reading ∧ reading ≤ s.smn.iact.limits.high) :
    monitorReadingAct reading s = ⟨iactHeard reading s, [.gateCheck]⟩ := by
  refine reading_completes slot ?_ (by exact first)
  cases armed : armedIn s.smn.iact.limits.armed s.csq.lifecycle with
  | true =>
    obtain ⟨low, high⟩ := inRange armed
    refine ((compareReading_inRange (c := .iact) (s := nextSlot s) armed low high).trans (countInRange_rests (by exact rests))).trans
      (congrArg done (modChannel_congr ?_))
    exact (congrArg (fun b => { heard reading s.smn.iact with inRange := if b then s.smn.iact.inRange else 0 }) armed).symm
  | false =>
    refine (compareReading_unarmed (c := .iact) (s := nextSlot s) armed rests).trans (congrArg done (modChannel_congr ?_))
    exact (congrArg (fun b => { heard reading s.smn.iact with inRange := if b then s.smn.iact.inRange else 0 }) armed).symm

end Does

/-- Settles O28. -/
theorem monitorReadingsAct : Obligations.MonitorReadingsAct := by
  intro reading x j o s
  refine ⟨fun slot armed low high => ⟨fun rests => ?records, fun active first => ?counts⟩, fun unarmed rests elsewhere round => ?unarmed,
    fun slot stopped armed rests action persistence run below => ?retracts,
    fun slot near armed rests action persistence side run low above => ⟨fun noOp => ?holds, fun op write retry follow => ?tears⟩,
    fun slot ready noPass job order armed rests action persistence run low above => ?parks,
    fun slot elsewhere armed active action second low high v12 v5 ispin iact departure => ?holdEnds,
    fun slot stopped request round still armed active action second low high v12 temp ispin iact => ?gateOpens,
    fun slot ready rests low high temperature far due => ⟨fun job order => ?drifts, fun noJob order idle noPass onTrack elsewhere => ?calibrates⟩,
    fun slot first rests inRange => ⟨fun unasked => ?firstRound, fun stopped request still shut => ?roundOpens⟩⟩
  case records =>
    obtain ⟨still, round⟩ := slot_plain slot
    exact next_reading rfl (compareReading_records armed low high rests) (by exact still) (by rw [modChannel_roundComplete]; exact round)
  case counts =>
    obtain ⟨still, round⟩ := slot_plain slot
    exact next_reading rfl (compareReading_counts armed low high active first) (by exact still) (by rw [modChannel_roundComplete]; exact round)
  case unarmed =>
    exact next_reading rfl (compareReading_unarmed (by rwa [channel_nextSlot]) (by rwa [channel_nextSlot])) (fun _ => .inl elsewhere)
      (by rw [modChannel_roundComplete]; exact round)
  case retracts =>
    refine leads_of (next_of_settle (v5_retracts slot stopped armed rests action persistence run below)) ?_
    exact ⟨rfl, gateShut_of (c := .v5) (.inr action), rfl, rfl, rfl, rfl, rfl⟩
  case holds =>
    have watched := (temp_holds armed rests action persistence side run low above).trans (mediaWatch_idle fun u op => nomatch noOp ▸ op)
    refine leads_of (next_reading slot watched (fun _ => near.imp_right .inl) nofun) ?_
    exact ⟨trippedHigh_again side, writeHold_of (c := .temp) action, rfl, rfl, rfl, rfl, rfl⟩
  case tears =>
    have watched := (temp_holds armed rests action persistence side run low above).trans (mediaWatch_cut (by exact op) (by exact retry) (by exact follow)
      (.inl ⟨write, gateAllowed_of_hold (writeHold_of (c := .temp) action)⟩))
    refine leads_of (next_reading slot watched (fun _ => near.imp_right .inl) nofun) ?_
    exact ⟨writeHold_of (c := .temp) action, rfl, rfl, rfl, rfl, rfl, rfl⟩
  case parks =>
    refine leads_of (next_of_settle (ispin_parks slot ready noPass job order rests action persistence run low above)) ?_
    refine ⟨rfl, gateShut_of (c := .ispin) (.inl action), rfl, rfl, rfl, job, ?_⟩
    and_intros <;> rfl
  case holdEnds =>
    have holds : s.smn.temp.action = .holdWrites := action_high active action
    have clear := clear_relieved (c := .temp) (reading := reading) (s := s) (by rintro (_ | _ | _ | _ | _) h <;> trivial)
    refine leads_of (temp_relieved slot elsewhere armed active holds second low high clear departure) ?_
    exact ⟨rfl, writeHold_of (c := .temp) holds, writeHold_of_quiet clear, rfl, rfl, rfl, rfl, rfl, rfl, rfl⟩
  case gateOpens =>
    have shuts : s.smn.v5.action = .retract := action_low active action
    have clear := clear_relieved (c := .v5) (reading := reading) (s := s) (by rintro (_ | _ | _ | _ | _) h <;> trivial)
    refine leads_of (v5_opens slot stopped request round still armed active shuts second low high clear) ?_
    refine ⟨rfl, gateShut_of (c := .v5) (.inr shuts), gateShut_of_quiet clear, ?_⟩
    and_intros <;> rfl
  case drifts =>
    rw [show Channel.ispin = s.smn.slot.next by rw [slot]; rfl]
    exact next_of_settle (settle_of (temp_drifts slot ready rests low high temperature far due)
      (drain_of (calibrationCheck_order (by exact job) order) (drain_nil _ _)))
  case calibrates =>
    obtain ⟨mode, held, -⟩ := onTrack
    have begins := calibrationCheck_begins (s := driftedState reading s) ready rfl noJob order idle mode held elsewhere
    refine leads_of (next_of_settle (settle_of (temp_drifts slot ready rests low high temperature far due) (drain_of begins (drain_nil _ _)))) ?_
    refine ⟨rfl, rfl, rfl, noPass, ?_⟩
    and_intros <;> rfl
  case firstRound =>
    rw [show Channel.v12 = s.smn.slot.next by rw [slot]; rfl]
    have rest : drain 200 [.gateCheck] (iactHeard reading s) = iactHeard reading s :=
      drain_of (m := []) (congrArg done (spinGateCheck_unasked (by exact unasked))) (drain_nil _ _)
    exact next_of_settle (settle_of (iact_completes slot first rests inRange) rest)
  case roundOpens =>
    have opens := spinGateCheck_open (s := iactHeard reading s) stopped request rfl shut still
    refine leads_of (next_of_settle (settle_of (iact_completes slot first rests inRange) (drain_of (m := []) (congrArg done opens) (drain_nil _ _)))) ?_
    and_intros <;> rfl

end Sys2Proof.Machine
